-- ==== Sys2Proof/Word.lean ====
section
/-! DEFINITION. The word types of the machine: the 16-bit word, the register-file address, the bit
number, and the operating width of an instruction. -/

namespace Sys2Proof

/-- A 16-bit word: an instruction word, an immediate word, a register, the Y bus (R4). -/
abbrev Word := BitVec 16

/-- A register-file address, field "Адрес РЗУ" at I[4:0] (R20). -/
abbrev Reg := BitVec 5

/-- A bit number or rotate count n, field I[12:9] (R4). -/
abbrev BitNo := BitVec 4

/-- The operating width B/W of an instruction (R7). -/
inductive Width where
  | byte
  | word
  deriving DecidableEq, Repr

/-- `w` of R7: 8 bits in byte mode, 16 in word mode. -/
@[reducible] def Width.bits : Width → Nat
  | .byte => 8
  | .word => 16

end Sys2Proof
end

