-- ==== Sys2Proof/Formats.lean ====
section
/-! DEFINITION. The 27 instruction formats of R71 and the mnemonics each selecting field of a format
may hold. A mnemonic whose operand is I carries the immediate word (R76, R391). -/

namespace Sys2Proof

/-- Single-operand operations, F1 of SOR and SONR (R81). -/
inductive SingleOp where
  | move | comp | inc | neg
  deriving DecidableEq, Repr

/-- Source and destination forms of SOR, F2 (R82). -/
inductive SorForm where
  | sora | sory | sors | soar | sodr | soir (imm : Word) | sozr | sozer | soser | sorr
  deriving DecidableEq, Repr

/-- Sources of SONR, F2 (R83). -/
inductive SonrSource where
  | soa | sod | soi (imm : Word) | soz | soze | sose
  deriving DecidableEq, Repr

/-- Destinations of SONR and TONR, F3 (R84). -/
inductive NrDest where
  | nry | nra | nrs | nras
  deriving DecidableEq, Repr

/-- Destinations of SHFTNR, PRTNR and SVSTNR, F3 (R84). -/
inductive NrShortDest where
  | nry | nra
  deriving DecidableEq, Repr

/-- Two-operand operations, F2 of TOR1, TOR2 and TONR (R85). -/
inductive TwoOp where
  | subr | subrc | subs | subsc | add | addc | and | nand | exor | nor | or | exnor
  deriving DecidableEq, Repr

/-- Forms of TOR1, F1 (R86). -/
inductive Tor1Form where
  | toraa | toria (imm : Word) | todra | toray | toriy (imm : Word) | todry | torar
  | torir (imm : Word) | todrr
  deriving DecidableEq, Repr

/-- Forms of TOR2, F1 (R87). -/
inductive Tor2Form where
  | todar | toair (imm : Word) | todir (imm : Word)
  deriving DecidableEq, Repr

/-- Forms of TONR, F1 (R88). -/
inductive TonrForm where
  | toda | toai (imm : Word) | todi (imm : Word)
  deriving DecidableEq, Repr

/-- Shift operations, F2 of SHFTR and SHFTNR (R89). -/
inductive ShiftOp where
  | shupz | shup1 | shupl | shdnz | shdn1 | shdnl | shdnc | shdnov
  deriving DecidableEq, Repr

/-- Forms of SHFTR, F1 (R90). -/
inductive ShftrForm where
  | shrr | shdr
  deriving DecidableEq, Repr

/-- Sources of SHFTNR, F1 (R90). -/
inductive ShftnrSource where
  | sha | shd
  deriving DecidableEq, Repr

/-- Operations of BOR1, F2 (R91). -/
inductive Bor1Op where
  | setnr | rstnr | tstnr
  deriving DecidableEq, Repr

/-- Operations of BOR2, F2 (R92). -/
inductive Bor2Op where
  | ld2nr | ldc2nr | a2nr | s2nr
  deriving DecidableEq, Repr

/-- Operations of BONR, F3 (R93). -/
inductive BonrOp where
  | tstna | rstna | setna | a2na | s2na | ld2na | ldc2na
  | tstnd | rstnd | setnd | a2ndy | s2ndy | ld2ny | ldc2ny
  deriving DecidableEq, Repr

/-- Forms of ROTR1, F2 (R94). -/
inductive Rotr1Form where
  | rtra | rtry | rtrr
  deriving DecidableEq, Repr

/-- Forms of ROTR2, F2 (R95). -/
inductive Rotr2Form where
  | rtar | rtdr
  deriving DecidableEq, Repr

/-- Forms of ROTNR, F3 (R96). -/
inductive RotnrForm where
  | rtdy | rtda | rtay | rtaa
  deriving DecidableEq, Repr

/-- Forms of ROTC, F2 (R97). -/
inductive RotcForm where
  | cdai (imm : Word) | cdri (imm : Word) | cdra | crai (imm : Word)
  deriving DecidableEq, Repr

/-- Forms of ROTM, F2 (R98). -/
inductive RotmForm where
  | mdai (imm : Word) | mdar | mdri (imm : Word) | mdra | mari (imm : Word) | mrai (imm : Word)
  deriving DecidableEq, Repr

/-- Destinations of PRT1, F1 (R99). -/
inductive Prt1Dest where
  | pr1a | pr1y | pr1r
  deriving DecidableEq, Repr

/-- Sources R of PRT1, F2 (R99). -/
inductive Prt1Source where
  | prt1a | prt1d
  deriving DecidableEq, Repr

/-- Mask selectors of PRT2, PRT3 and PRTNR, F1 (R100). -/
inductive PrtMask where
  | pra | prz | pri (imm : Word)
  deriving DecidableEq, Repr

/-- Destinations of PRT2, F2 (R100). -/
inductive Prt2Dest where
  | pr2a | pr2y
  deriving DecidableEq, Repr

/-- Sources R of PRT3, F2 (R101). -/
inductive Prt3Source where
  | pr3r | pr3a | pr3d
  deriving DecidableEq, Repr

/-- Sources R of PRTNR, F2 (R102). -/
inductive PrtnrSource where
  | prta | prtd
  deriving DecidableEq, Repr

/-- Operations of SETST, F3 (R104). -/
inductive SetOp where
  | sonccz | sl | sf1 | sf2 | sf3
  deriving DecidableEq, Repr

/-- Operations of RSTST, F3 (R104). -/
inductive RstOp where
  | ronccz | rl | rf1 | rf2 | rf3
  deriving DecidableEq, Repr

/-- Test conditions of TSTST, F3 (R106). -/
inductive TestCond where
  | tnoz | tno | tz | tovr | tlow | tc | tzc | tn | tl | tf1 | tf2 | tf3
  deriving DecidableEq, Repr

/-- One constructor per format of R71: the selecting fields in field order F1 F2 F3, then W, n, a. -/
inductive Format where
  | sor (op : SingleOp) (form : SorForm) (w : Width) (a : Reg)
  | sonr (op : SingleOp) (src : SonrSource) (dst : NrDest) (w : Width)
  | tor1 (form : Tor1Form) (op : TwoOp) (w : Width) (a : Reg)
  | tor2 (form : Tor2Form) (op : TwoOp) (w : Width) (a : Reg)
  | tonr (form : TonrForm) (op : TwoOp) (dst : NrDest) (w : Width)
  | shftr (form : ShftrForm) (op : ShiftOp) (w : Width) (a : Reg)
  | shftnr (src : ShftnrSource) (op : ShiftOp) (dst : NrShortDest) (w : Width)
  | bor1 (op : Bor1Op) (w : Width) (n : BitNo) (a : Reg)
  | bor2 (op : Bor2Op) (w : Width) (n : BitNo) (a : Reg)
  | bonr (op : BonrOp) (w : Width) (n : BitNo)
  | rotr1 (form : Rotr1Form) (w : Width) (n : BitNo) (a : Reg)
  | rotr2 (form : Rotr2Form) (w : Width) (n : BitNo) (a : Reg)
  | rotnr (form : RotnrForm) (w : Width) (n : BitNo)
  | rotc (form : RotcForm) (w : Width) (n : BitNo) (a : Reg)
  | rotm (form : RotmForm) (w : Width) (n : BitNo) (a : Reg)
  | prt1 (dst : Prt1Dest) (src : Prt1Source) (w : Width) (a : Reg)
  | prt2 (mask : PrtMask) (dst : Prt2Dest) (w : Width) (a : Reg)
  | prt3 (mask : PrtMask) (src : Prt3Source) (w : Width) (a : Reg)
  | prtnr (mask : PrtMask) (src : PrtnrSource) (dst : NrShortDest) (w : Width)
  | crcf (a : Reg)
  | crcr (a : Reg)
  | setst (op : SetOp)
  | rstst (op : RstOp)
  | svstr (w : Width) (a : Reg)
  | svstnr (dst : NrShortDest) (w : Width)
  | tstst (cond : TestCond)
  | nop
  deriving DecidableEq, Repr

end Sys2Proof
end

