-- ==== Sys2Proof/Syntax.lean ====
section
/-! DEFINITION. The instruction set as syntax: one constructor per row of spec/opcode_table.json, in the
order of R2's twelve groups. A constructor's arguments are the row's free fields W, n, a (as `w`, `n`,
`a`) and, for a row with `imm`, the immediate word that follows the instruction word (R76). -/

namespace Sys2Proof

/-- An instruction of R2: a row of the opcode table with its operands. -/
inductive Instr where
  -- SOR (single-operand)
  | sorMoveSora (w : Width) (a : Reg)
  | sorMoveSory (w : Width) (a : Reg)
  | sorMoveSors (w : Width) (a : Reg)
  | sorMoveSoar (w : Width) (a : Reg)
  | sorMoveSodr (w : Width) (a : Reg)
  | sorMoveSoir (w : Width) (a : Reg) (imm : Word)
  | sorMoveSozr (w : Width) (a : Reg)
  | sorMoveSozer (w : Width) (a : Reg)
  | sorMoveSoser (w : Width) (a : Reg)
  | sorMoveSorr (w : Width) (a : Reg)
  | sorCompSora (w : Width) (a : Reg)
  | sorCompSory (w : Width) (a : Reg)
  | sorCompSors (w : Width) (a : Reg)
  | sorCompSoar (w : Width) (a : Reg)
  | sorCompSodr (w : Width) (a : Reg)
  | sorCompSoir (w : Width) (a : Reg) (imm : Word)
  | sorCompSozr (w : Width) (a : Reg)
  | sorCompSozer (w : Width) (a : Reg)
  | sorCompSoser (w : Width) (a : Reg)
  | sorCompSorr (w : Width) (a : Reg)
  | sorIncSora (w : Width) (a : Reg)
  | sorIncSory (w : Width) (a : Reg)
  | sorIncSors (w : Width) (a : Reg)
  | sorIncSoar (w : Width) (a : Reg)
  | sorIncSodr (w : Width) (a : Reg)
  | sorIncSoir (w : Width) (a : Reg) (imm : Word)
  | sorIncSozr (w : Width) (a : Reg)
  | sorIncSozer (w : Width) (a : Reg)
  | sorIncSoser (w : Width) (a : Reg)
  | sorIncSorr (w : Width) (a : Reg)
  | sorNegSora (w : Width) (a : Reg)
  | sorNegSory (w : Width) (a : Reg)
  | sorNegSors (w : Width) (a : Reg)
  | sorNegSoar (w : Width) (a : Reg)
  | sorNegSodr (w : Width) (a : Reg)
  | sorNegSoir (w : Width) (a : Reg) (imm : Word)
  | sorNegSozr (w : Width) (a : Reg)
  | sorNegSozer (w : Width) (a : Reg)
  | sorNegSoser (w : Width) (a : Reg)
  | sorNegSorr (w : Width) (a : Reg)
  -- SONR (single-operand)
  | sonrMoveSoaNry (w : Width)
  | sonrMoveSoaNra (w : Width)
  | sonrMoveSoaNrs (w : Width)
  | sonrMoveSoaNras (w : Width)
  | sonrMoveSodNry (w : Width)
  | sonrMoveSodNra (w : Width)
  | sonrMoveSodNrs (w : Width)
  | sonrMoveSodNras (w : Width)
  | sonrMoveSoiNry (w : Width) (imm : Word)
  | sonrMoveSoiNra (w : Width) (imm : Word)
  | sonrMoveSoiNrs (w : Width) (imm : Word)
  | sonrMoveSoiNras (w : Width) (imm : Word)
  | sonrMoveSozNry (w : Width)
  | sonrMoveSozNra (w : Width)
  | sonrMoveSozNrs (w : Width)
  | sonrMoveSozNras (w : Width)
  | sonrMoveSozeNry (w : Width)
  | sonrMoveSozeNra (w : Width)
  | sonrMoveSozeNrs (w : Width)
  | sonrMoveSozeNras (w : Width)
  | sonrMoveSoseNry (w : Width)
  | sonrMoveSoseNra (w : Width)
  | sonrMoveSoseNrs (w : Width)
  | sonrMoveSoseNras (w : Width)
  | sonrCompSoaNry (w : Width)
  | sonrCompSoaNra (w : Width)
  | sonrCompSoaNrs (w : Width)
  | sonrCompSoaNras (w : Width)
  | sonrCompSodNry (w : Width)
  | sonrCompSodNra (w : Width)
  | sonrCompSodNrs (w : Width)
  | sonrCompSodNras (w : Width)
  | sonrCompSoiNry (w : Width) (imm : Word)
  | sonrCompSoiNra (w : Width) (imm : Word)
  | sonrCompSoiNrs (w : Width) (imm : Word)
  | sonrCompSoiNras (w : Width) (imm : Word)
  | sonrCompSozNry (w : Width)
  | sonrCompSozNra (w : Width)
  | sonrCompSozNrs (w : Width)
  | sonrCompSozNras (w : Width)
  | sonrCompSozeNry (w : Width)
  | sonrCompSozeNra (w : Width)
  | sonrCompSozeNrs (w : Width)
  | sonrCompSozeNras (w : Width)
  | sonrCompSoseNry (w : Width)
  | sonrCompSoseNra (w : Width)
  | sonrCompSoseNrs (w : Width)
  | sonrCompSoseNras (w : Width)
  | sonrIncSoaNry (w : Width)
  | sonrIncSoaNra (w : Width)
  | sonrIncSoaNrs (w : Width)
  | sonrIncSoaNras (w : Width)
  | sonrIncSodNry (w : Width)
  | sonrIncSodNra (w : Width)
  | sonrIncSodNrs (w : Width)
  | sonrIncSodNras (w : Width)
  | sonrIncSoiNry (w : Width) (imm : Word)
  | sonrIncSoiNra (w : Width) (imm : Word)
  | sonrIncSoiNrs (w : Width) (imm : Word)
  | sonrIncSoiNras (w : Width) (imm : Word)
  | sonrIncSozNry (w : Width)
  | sonrIncSozNra (w : Width)
  | sonrIncSozNrs (w : Width)
  | sonrIncSozNras (w : Width)
  | sonrIncSozeNry (w : Width)
  | sonrIncSozeNra (w : Width)
  | sonrIncSozeNrs (w : Width)
  | sonrIncSozeNras (w : Width)
  | sonrIncSoseNry (w : Width)
  | sonrIncSoseNra (w : Width)
  | sonrIncSoseNrs (w : Width)
  | sonrIncSoseNras (w : Width)
  | sonrNegSoaNry (w : Width)
  | sonrNegSoaNra (w : Width)
  | sonrNegSoaNrs (w : Width)
  | sonrNegSoaNras (w : Width)
  | sonrNegSodNry (w : Width)
  | sonrNegSodNra (w : Width)
  | sonrNegSodNrs (w : Width)
  | sonrNegSodNras (w : Width)
  | sonrNegSoiNry (w : Width) (imm : Word)
  | sonrNegSoiNra (w : Width) (imm : Word)
  | sonrNegSoiNrs (w : Width) (imm : Word)
  | sonrNegSoiNras (w : Width) (imm : Word)
  | sonrNegSozNry (w : Width)
  | sonrNegSozNra (w : Width)
  | sonrNegSozNrs (w : Width)
  | sonrNegSozNras (w : Width)
  | sonrNegSozeNry (w : Width)
  | sonrNegSozeNra (w : Width)
  | sonrNegSozeNrs (w : Width)
  | sonrNegSozeNras (w : Width)
  | sonrNegSoseNry (w : Width)
  | sonrNegSoseNra (w : Width)
  | sonrNegSoseNrs (w : Width)
  | sonrNegSoseNras (w : Width)
  -- TOR1 (two-operand)
  | tor1ToraaSubr (w : Width) (a : Reg)
  | tor1ToriaSubr (w : Width) (a : Reg) (imm : Word)
  | tor1TodraSubr (w : Width) (a : Reg)
  | tor1ToraySubr (w : Width) (a : Reg)
  | tor1ToriySubr (w : Width) (a : Reg) (imm : Word)
  | tor1TodrySubr (w : Width) (a : Reg)
  | tor1TorarSubr (w : Width) (a : Reg)
  | tor1TorirSubr (w : Width) (a : Reg) (imm : Word)
  | tor1TodrrSubr (w : Width) (a : Reg)
  | tor1ToraaSubrc (w : Width) (a : Reg)
  | tor1ToriaSubrc (w : Width) (a : Reg) (imm : Word)
  | tor1TodraSubrc (w : Width) (a : Reg)
  | tor1ToraySubrc (w : Width) (a : Reg)
  | tor1ToriySubrc (w : Width) (a : Reg) (imm : Word)
  | tor1TodrySubrc (w : Width) (a : Reg)
  | tor1TorarSubrc (w : Width) (a : Reg)
  | tor1TorirSubrc (w : Width) (a : Reg) (imm : Word)
  | tor1TodrrSubrc (w : Width) (a : Reg)
  | tor1ToraaSubs (w : Width) (a : Reg)
  | tor1ToriaSubs (w : Width) (a : Reg) (imm : Word)
  | tor1TodraSubs (w : Width) (a : Reg)
  | tor1ToraySubs (w : Width) (a : Reg)
  | tor1ToriySubs (w : Width) (a : Reg) (imm : Word)
  | tor1TodrySubs (w : Width) (a : Reg)
  | tor1TorarSubs (w : Width) (a : Reg)
  | tor1TorirSubs (w : Width) (a : Reg) (imm : Word)
  | tor1TodrrSubs (w : Width) (a : Reg)
  | tor1ToraaSubsc (w : Width) (a : Reg)
  | tor1ToriaSubsc (w : Width) (a : Reg) (imm : Word)
  | tor1TodraSubsc (w : Width) (a : Reg)
  | tor1ToraySubsc (w : Width) (a : Reg)
  | tor1ToriySubsc (w : Width) (a : Reg) (imm : Word)
  | tor1TodrySubsc (w : Width) (a : Reg)
  | tor1TorarSubsc (w : Width) (a : Reg)
  | tor1TorirSubsc (w : Width) (a : Reg) (imm : Word)
  | tor1TodrrSubsc (w : Width) (a : Reg)
  | tor1ToraaAdd (w : Width) (a : Reg)
  | tor1ToriaAdd (w : Width) (a : Reg) (imm : Word)
  | tor1TodraAdd (w : Width) (a : Reg)
  | tor1TorayAdd (w : Width) (a : Reg)
  | tor1ToriyAdd (w : Width) (a : Reg) (imm : Word)
  | tor1TodryAdd (w : Width) (a : Reg)
  | tor1TorarAdd (w : Width) (a : Reg)
  | tor1TorirAdd (w : Width) (a : Reg) (imm : Word)
  | tor1TodrrAdd (w : Width) (a : Reg)
  | tor1ToraaAddc (w : Width) (a : Reg)
  | tor1ToriaAddc (w : Width) (a : Reg) (imm : Word)
  | tor1TodraAddc (w : Width) (a : Reg)
  | tor1TorayAddc (w : Width) (a : Reg)
  | tor1ToriyAddc (w : Width) (a : Reg) (imm : Word)
  | tor1TodryAddc (w : Width) (a : Reg)
  | tor1TorarAddc (w : Width) (a : Reg)
  | tor1TorirAddc (w : Width) (a : Reg) (imm : Word)
  | tor1TodrrAddc (w : Width) (a : Reg)
  | tor1ToraaAnd (w : Width) (a : Reg)
  | tor1ToriaAnd (w : Width) (a : Reg) (imm : Word)
  | tor1TodraAnd (w : Width) (a : Reg)
  | tor1TorayAnd (w : Width) (a : Reg)
  | tor1ToriyAnd (w : Width) (a : Reg) (imm : Word)
  | tor1TodryAnd (w : Width) (a : Reg)
  | tor1TorarAnd (w : Width) (a : Reg)
  | tor1TorirAnd (w : Width) (a : Reg) (imm : Word)
  | tor1TodrrAnd (w : Width) (a : Reg)
  | tor1ToraaNand (w : Width) (a : Reg)
  | tor1ToriaNand (w : Width) (a : Reg) (imm : Word)
  | tor1TodraNand (w : Width) (a : Reg)
  | tor1TorayNand (w : Width) (a : Reg)
  | tor1ToriyNand (w : Width) (a : Reg) (imm : Word)
  | tor1TodryNand (w : Width) (a : Reg)
  | tor1TorarNand (w : Width) (a : Reg)
  | tor1TorirNand (w : Width) (a : Reg) (imm : Word)
  | tor1TodrrNand (w : Width) (a : Reg)
  | tor1ToraaExor (w : Width) (a : Reg)
  | tor1ToriaExor (w : Width) (a : Reg) (imm : Word)
  | tor1TodraExor (w : Width) (a : Reg)
  | tor1TorayExor (w : Width) (a : Reg)
  | tor1ToriyExor (w : Width) (a : Reg) (imm : Word)
  | tor1TodryExor (w : Width) (a : Reg)
  | tor1TorarExor (w : Width) (a : Reg)
  | tor1TorirExor (w : Width) (a : Reg) (imm : Word)
  | tor1TodrrExor (w : Width) (a : Reg)
  | tor1ToraaNor (w : Width) (a : Reg)
  | tor1ToriaNor (w : Width) (a : Reg) (imm : Word)
  | tor1TodraNor (w : Width) (a : Reg)
  | tor1TorayNor (w : Width) (a : Reg)
  | tor1ToriyNor (w : Width) (a : Reg) (imm : Word)
  | tor1TodryNor (w : Width) (a : Reg)
  | tor1TorarNor (w : Width) (a : Reg)
  | tor1TorirNor (w : Width) (a : Reg) (imm : Word)
  | tor1TodrrNor (w : Width) (a : Reg)
  | tor1ToraaOr (w : Width) (a : Reg)
  | tor1ToriaOr (w : Width) (a : Reg) (imm : Word)
  | tor1TodraOr (w : Width) (a : Reg)
  | tor1TorayOr (w : Width) (a : Reg)
  | tor1ToriyOr (w : Width) (a : Reg) (imm : Word)
  | tor1TodryOr (w : Width) (a : Reg)
  | tor1TorarOr (w : Width) (a : Reg)
  | tor1TorirOr (w : Width) (a : Reg) (imm : Word)
  | tor1TodrrOr (w : Width) (a : Reg)
  | tor1ToraaExnor (w : Width) (a : Reg)
  | tor1ToriaExnor (w : Width) (a : Reg) (imm : Word)
  | tor1TodraExnor (w : Width) (a : Reg)
  | tor1TorayExnor (w : Width) (a : Reg)
  | tor1ToriyExnor (w : Width) (a : Reg) (imm : Word)
  | tor1TodryExnor (w : Width) (a : Reg)
  | tor1TorarExnor (w : Width) (a : Reg)
  | tor1TorirExnor (w : Width) (a : Reg) (imm : Word)
  | tor1TodrrExnor (w : Width) (a : Reg)
  -- TOR2 (two-operand)
  | tor2TodarSubr (w : Width) (a : Reg)
  | tor2ToairSubr (w : Width) (a : Reg) (imm : Word)
  | tor2TodirSubr (w : Width) (a : Reg) (imm : Word)
  | tor2TodarSubrc (w : Width) (a : Reg)
  | tor2ToairSubrc (w : Width) (a : Reg) (imm : Word)
  | tor2TodirSubrc (w : Width) (a : Reg) (imm : Word)
  | tor2TodarSubs (w : Width) (a : Reg)
  | tor2ToairSubs (w : Width) (a : Reg) (imm : Word)
  | tor2TodirSubs (w : Width) (a : Reg) (imm : Word)
  | tor2TodarSubsc (w : Width) (a : Reg)
  | tor2ToairSubsc (w : Width) (a : Reg) (imm : Word)
  | tor2TodirSubsc (w : Width) (a : Reg) (imm : Word)
  | tor2TodarAdd (w : Width) (a : Reg)
  | tor2ToairAdd (w : Width) (a : Reg) (imm : Word)
  | tor2TodirAdd (w : Width) (a : Reg) (imm : Word)
  | tor2TodarAddc (w : Width) (a : Reg)
  | tor2ToairAddc (w : Width) (a : Reg) (imm : Word)
  | tor2TodirAddc (w : Width) (a : Reg) (imm : Word)
  | tor2TodarAnd (w : Width) (a : Reg)
  | tor2ToairAnd (w : Width) (a : Reg) (imm : Word)
  | tor2TodirAnd (w : Width) (a : Reg) (imm : Word)
  | tor2TodarNand (w : Width) (a : Reg)
  | tor2ToairNand (w : Width) (a : Reg) (imm : Word)
  | tor2TodirNand (w : Width) (a : Reg) (imm : Word)
  | tor2TodarExor (w : Width) (a : Reg)
  | tor2ToairExor (w : Width) (a : Reg) (imm : Word)
  | tor2TodirExor (w : Width) (a : Reg) (imm : Word)
  | tor2TodarNor (w : Width) (a : Reg)
  | tor2ToairNor (w : Width) (a : Reg) (imm : Word)
  | tor2TodirNor (w : Width) (a : Reg) (imm : Word)
  | tor2TodarOr (w : Width) (a : Reg)
  | tor2ToairOr (w : Width) (a : Reg) (imm : Word)
  | tor2TodirOr (w : Width) (a : Reg) (imm : Word)
  | tor2TodarExnor (w : Width) (a : Reg)
  | tor2ToairExnor (w : Width) (a : Reg) (imm : Word)
  | tor2TodirExnor (w : Width) (a : Reg) (imm : Word)
  -- TONR (two-operand)
  | tonrTodaSubrNry (w : Width)
  | tonrTodaSubrNra (w : Width)
  | tonrTodaSubrNrs (w : Width)
  | tonrTodaSubrNras (w : Width)
  | tonrToaiSubrNry (w : Width) (imm : Word)
  | tonrToaiSubrNra (w : Width) (imm : Word)
  | tonrToaiSubrNrs (w : Width) (imm : Word)
  | tonrToaiSubrNras (w : Width) (imm : Word)
  | tonrTodiSubrNry (w : Width) (imm : Word)
  | tonrTodiSubrNra (w : Width) (imm : Word)
  | tonrTodiSubrNrs (w : Width) (imm : Word)
  | tonrTodiSubrNras (w : Width) (imm : Word)
  | tonrTodaSubrcNry (w : Width)
  | tonrTodaSubrcNra (w : Width)
  | tonrTodaSubrcNrs (w : Width)
  | tonrTodaSubrcNras (w : Width)
  | tonrToaiSubrcNry (w : Width) (imm : Word)
  | tonrToaiSubrcNra (w : Width) (imm : Word)
  | tonrToaiSubrcNrs (w : Width) (imm : Word)
  | tonrToaiSubrcNras (w : Width) (imm : Word)
  | tonrTodiSubrcNry (w : Width) (imm : Word)
  | tonrTodiSubrcNra (w : Width) (imm : Word)
  | tonrTodiSubrcNrs (w : Width) (imm : Word)
  | tonrTodiSubrcNras (w : Width) (imm : Word)
  | tonrTodaSubsNry (w : Width)
  | tonrTodaSubsNra (w : Width)
  | tonrTodaSubsNrs (w : Width)
  | tonrTodaSubsNras (w : Width)
  | tonrToaiSubsNry (w : Width) (imm : Word)
  | tonrToaiSubsNra (w : Width) (imm : Word)
  | tonrToaiSubsNrs (w : Width) (imm : Word)
  | tonrToaiSubsNras (w : Width) (imm : Word)
  | tonrTodiSubsNry (w : Width) (imm : Word)
  | tonrTodiSubsNra (w : Width) (imm : Word)
  | tonrTodiSubsNrs (w : Width) (imm : Word)
  | tonrTodiSubsNras (w : Width) (imm : Word)
  | tonrTodaSubscNry (w : Width)
  | tonrTodaSubscNra (w : Width)
  | tonrTodaSubscNrs (w : Width)
  | tonrTodaSubscNras (w : Width)
  | tonrToaiSubscNry (w : Width) (imm : Word)
  | tonrToaiSubscNra (w : Width) (imm : Word)
  | tonrToaiSubscNrs (w : Width) (imm : Word)
  | tonrToaiSubscNras (w : Width) (imm : Word)
  | tonrTodiSubscNry (w : Width) (imm : Word)
  | tonrTodiSubscNra (w : Width) (imm : Word)
  | tonrTodiSubscNrs (w : Width) (imm : Word)
  | tonrTodiSubscNras (w : Width) (imm : Word)
  | tonrTodaAddNry (w : Width)
  | tonrTodaAddNra (w : Width)
  | tonrTodaAddNrs (w : Width)
  | tonrTodaAddNras (w : Width)
  | tonrToaiAddNry (w : Width) (imm : Word)
  | tonrToaiAddNra (w : Width) (imm : Word)
  | tonrToaiAddNrs (w : Width) (imm : Word)
  | tonrToaiAddNras (w : Width) (imm : Word)
  | tonrTodiAddNry (w : Width) (imm : Word)
  | tonrTodiAddNra (w : Width) (imm : Word)
  | tonrTodiAddNrs (w : Width) (imm : Word)
  | tonrTodiAddNras (w : Width) (imm : Word)
  | tonrTodaAddcNry (w : Width)
  | tonrTodaAddcNra (w : Width)
  | tonrTodaAddcNrs (w : Width)
  | tonrTodaAddcNras (w : Width)
  | tonrToaiAddcNry (w : Width) (imm : Word)
  | tonrToaiAddcNra (w : Width) (imm : Word)
  | tonrToaiAddcNrs (w : Width) (imm : Word)
  | tonrToaiAddcNras (w : Width) (imm : Word)
  | tonrTodiAddcNry (w : Width) (imm : Word)
  | tonrTodiAddcNra (w : Width) (imm : Word)
  | tonrTodiAddcNrs (w : Width) (imm : Word)
  | tonrTodiAddcNras (w : Width) (imm : Word)
  | tonrTodaAndNry (w : Width)
  | tonrTodaAndNra (w : Width)
  | tonrTodaAndNrs (w : Width)
  | tonrTodaAndNras (w : Width)
  | tonrToaiAndNry (w : Width) (imm : Word)
  | tonrToaiAndNra (w : Width) (imm : Word)
  | tonrToaiAndNrs (w : Width) (imm : Word)
  | tonrToaiAndNras (w : Width) (imm : Word)
  | tonrTodiAndNry (w : Width) (imm : Word)
  | tonrTodiAndNra (w : Width) (imm : Word)
  | tonrTodiAndNrs (w : Width) (imm : Word)
  | tonrTodiAndNras (w : Width) (imm : Word)
  | tonrTodaNandNry (w : Width)
  | tonrTodaNandNra (w : Width)
  | tonrTodaNandNrs (w : Width)
  | tonrTodaNandNras (w : Width)
  | tonrToaiNandNry (w : Width) (imm : Word)
  | tonrToaiNandNra (w : Width) (imm : Word)
  | tonrToaiNandNrs (w : Width) (imm : Word)
  | tonrToaiNandNras (w : Width) (imm : Word)
  | tonrTodiNandNry (w : Width) (imm : Word)
  | tonrTodiNandNra (w : Width) (imm : Word)
  | tonrTodiNandNrs (w : Width) (imm : Word)
  | tonrTodiNandNras (w : Width) (imm : Word)
  | tonrTodaExorNry (w : Width)
  | tonrTodaExorNra (w : Width)
  | tonrTodaExorNrs (w : Width)
  | tonrTodaExorNras (w : Width)
  | tonrToaiExorNry (w : Width) (imm : Word)
  | tonrToaiExorNra (w : Width) (imm : Word)
  | tonrToaiExorNrs (w : Width) (imm : Word)
  | tonrToaiExorNras (w : Width) (imm : Word)
  | tonrTodiExorNry (w : Width) (imm : Word)
  | tonrTodiExorNra (w : Width) (imm : Word)
  | tonrTodiExorNrs (w : Width) (imm : Word)
  | tonrTodiExorNras (w : Width) (imm : Word)
  | tonrTodaNorNry (w : Width)
  | tonrTodaNorNra (w : Width)
  | tonrTodaNorNrs (w : Width)
  | tonrTodaNorNras (w : Width)
  | tonrToaiNorNry (w : Width) (imm : Word)
  | tonrToaiNorNra (w : Width) (imm : Word)
  | tonrToaiNorNrs (w : Width) (imm : Word)
  | tonrToaiNorNras (w : Width) (imm : Word)
  | tonrTodiNorNry (w : Width) (imm : Word)
  | tonrTodiNorNra (w : Width) (imm : Word)
  | tonrTodiNorNrs (w : Width) (imm : Word)
  | tonrTodiNorNras (w : Width) (imm : Word)
  | tonrTodaOrNry (w : Width)
  | tonrTodaOrNra (w : Width)
  | tonrTodaOrNrs (w : Width)
  | tonrTodaOrNras (w : Width)
  | tonrToaiOrNry (w : Width) (imm : Word)
  | tonrToaiOrNra (w : Width) (imm : Word)
  | tonrToaiOrNrs (w : Width) (imm : Word)
  | tonrToaiOrNras (w : Width) (imm : Word)
  | tonrTodiOrNry (w : Width) (imm : Word)
  | tonrTodiOrNra (w : Width) (imm : Word)
  | tonrTodiOrNrs (w : Width) (imm : Word)
  | tonrTodiOrNras (w : Width) (imm : Word)
  | tonrTodaExnorNry (w : Width)
  | tonrTodaExnorNra (w : Width)
  | tonrTodaExnorNrs (w : Width)
  | tonrTodaExnorNras (w : Width)
  | tonrToaiExnorNry (w : Width) (imm : Word)
  | tonrToaiExnorNra (w : Width) (imm : Word)
  | tonrToaiExnorNrs (w : Width) (imm : Word)
  | tonrToaiExnorNras (w : Width) (imm : Word)
  | tonrTodiExnorNry (w : Width) (imm : Word)
  | tonrTodiExnorNra (w : Width) (imm : Word)
  | tonrTodiExnorNrs (w : Width) (imm : Word)
  | tonrTodiExnorNras (w : Width) (imm : Word)
  -- SHFTR (single-bit shift)
  | shftrShrrShupz (w : Width) (a : Reg)
  | shftrShdrShupz (w : Width) (a : Reg)
  | shftrShrrShup1 (w : Width) (a : Reg)
  | shftrShdrShup1 (w : Width) (a : Reg)
  | shftrShrrShupl (w : Width) (a : Reg)
  | shftrShdrShupl (w : Width) (a : Reg)
  | shftrShrrShdnz (w : Width) (a : Reg)
  | shftrShdrShdnz (w : Width) (a : Reg)
  | shftrShrrShdn1 (w : Width) (a : Reg)
  | shftrShdrShdn1 (w : Width) (a : Reg)
  | shftrShrrShdnl (w : Width) (a : Reg)
  | shftrShdrShdnl (w : Width) (a : Reg)
  | shftrShrrShdnc (w : Width) (a : Reg)
  | shftrShdrShdnc (w : Width) (a : Reg)
  | shftrShrrShdnov (w : Width) (a : Reg)
  | shftrShdrShdnov (w : Width) (a : Reg)
  -- SHFTNR (single-bit shift)
  | shftnrShaShupzNry (w : Width)
  | shftnrShaShupzNra (w : Width)
  | shftnrShdShupzNry (w : Width)
  | shftnrShdShupzNra (w : Width)
  | shftnrShaShup1Nry (w : Width)
  | shftnrShaShup1Nra (w : Width)
  | shftnrShdShup1Nry (w : Width)
  | shftnrShdShup1Nra (w : Width)
  | shftnrShaShuplNry (w : Width)
  | shftnrShaShuplNra (w : Width)
  | shftnrShdShuplNry (w : Width)
  | shftnrShdShuplNra (w : Width)
  | shftnrShaShdnzNry (w : Width)
  | shftnrShaShdnzNra (w : Width)
  | shftnrShdShdnzNry (w : Width)
  | shftnrShdShdnzNra (w : Width)
  | shftnrShaShdn1Nry (w : Width)
  | shftnrShaShdn1Nra (w : Width)
  | shftnrShdShdn1Nry (w : Width)
  | shftnrShdShdn1Nra (w : Width)
  | shftnrShaShdnlNry (w : Width)
  | shftnrShaShdnlNra (w : Width)
  | shftnrShdShdnlNry (w : Width)
  | shftnrShdShdnlNra (w : Width)
  | shftnrShaShdncNry (w : Width)
  | shftnrShaShdncNra (w : Width)
  | shftnrShdShdncNry (w : Width)
  | shftnrShdShdncNra (w : Width)
  | shftnrShaShdnovNry (w : Width)
  | shftnrShaShdnovNra (w : Width)
  | shftnrShdShdnovNry (w : Width)
  | shftnrShdShdnovNra (w : Width)
  -- BOR1 (bit)
  | bor1Setnr (w : Width) (n : BitNo) (a : Reg)
  | bor1Rstnr (w : Width) (n : BitNo) (a : Reg)
  | bor1Tstnr (w : Width) (n : BitNo) (a : Reg)
  -- BOR2 (bit)
  | bor2Ld2nr (w : Width) (n : BitNo) (a : Reg)
  | bor2Ldc2nr (w : Width) (n : BitNo) (a : Reg)
  | bor2A2nr (w : Width) (n : BitNo) (a : Reg)
  | bor2S2nr (w : Width) (n : BitNo) (a : Reg)
  -- BONR (bit)
  | bonrTstna (w : Width) (n : BitNo)
  | bonrRstna (w : Width) (n : BitNo)
  | bonrSetna (w : Width) (n : BitNo)
  | bonrA2na (w : Width) (n : BitNo)
  | bonrS2na (w : Width) (n : BitNo)
  | bonrLd2na (w : Width) (n : BitNo)
  | bonrLdc2na (w : Width) (n : BitNo)
  | bonrTstnd (w : Width) (n : BitNo)
  | bonrRstnd (w : Width) (n : BitNo)
  | bonrSetnd (w : Width) (n : BitNo)
  | bonrA2ndy (w : Width) (n : BitNo)
  | bonrS2ndy (w : Width) (n : BitNo)
  | bonrLd2ny (w : Width) (n : BitNo)
  | bonrLdc2ny (w : Width) (n : BitNo)
  -- ROTR1 (rotate by n)
  | rotr1Rtra (w : Width) (n : BitNo) (a : Reg)
  | rotr1Rtry (w : Width) (n : BitNo) (a : Reg)
  | rotr1Rtrr (w : Width) (n : BitNo) (a : Reg)
  -- ROTR2 (rotate by n)
  | rotr2Rtar (w : Width) (n : BitNo) (a : Reg)
  | rotr2Rtdr (w : Width) (n : BitNo) (a : Reg)
  -- ROTNR (rotate by n)
  | rotnrRtdy (w : Width) (n : BitNo)
  | rotnrRtda (w : Width) (n : BitNo)
  | rotnrRtay (w : Width) (n : BitNo)
  | rotnrRtaa (w : Width) (n : BitNo)
  -- ROTC (rotate and compare)
  | rotcCdai (w : Width) (n : BitNo) (a : Reg) (imm : Word)
  | rotcCdri (w : Width) (n : BitNo) (a : Reg) (imm : Word)
  | rotcCdra (w : Width) (n : BitNo) (a : Reg)
  | rotcCrai (w : Width) (n : BitNo) (a : Reg) (imm : Word)
  -- ROTM (rotate and merge)
  | rotmMdai (w : Width) (n : BitNo) (a : Reg) (imm : Word)
  | rotmMdar (w : Width) (n : BitNo) (a : Reg)
  | rotmMdri (w : Width) (n : BitNo) (a : Reg) (imm : Word)
  | rotmMdra (w : Width) (n : BitNo) (a : Reg)
  | rotmMari (w : Width) (n : BitNo) (a : Reg) (imm : Word)
  | rotmMrai (w : Width) (n : BitNo) (a : Reg) (imm : Word)
  -- PRT1 (prioritize)
  | prt1Pr1aPrt1a (w : Width) (a : Reg)
  | prt1Pr1aPrt1d (w : Width) (a : Reg)
  | prt1Pr1yPrt1a (w : Width) (a : Reg)
  | prt1Pr1yPrt1d (w : Width) (a : Reg)
  | prt1Pr1rPrt1a (w : Width) (a : Reg)
  | prt1Pr1rPrt1d (w : Width) (a : Reg)
  -- PRT2 (prioritize)
  | prt2PraPr2a (w : Width) (a : Reg)
  | prt2PraPr2y (w : Width) (a : Reg)
  | prt2PrzPr2a (w : Width) (a : Reg)
  | prt2PrzPr2y (w : Width) (a : Reg)
  | prt2PriPr2a (w : Width) (a : Reg) (imm : Word)
  | prt2PriPr2y (w : Width) (a : Reg) (imm : Word)
  -- PRT3 (prioritize)
  | prt3PraPr3r (w : Width) (a : Reg)
  | prt3PraPr3a (w : Width) (a : Reg)
  | prt3PraPr3d (w : Width) (a : Reg)
  | prt3PrzPr3r (w : Width) (a : Reg)
  | prt3PrzPr3a (w : Width) (a : Reg)
  | prt3PrzPr3d (w : Width) (a : Reg)
  | prt3PriPr3r (w : Width) (a : Reg) (imm : Word)
  | prt3PriPr3a (w : Width) (a : Reg) (imm : Word)
  | prt3PriPr3d (w : Width) (a : Reg) (imm : Word)
  -- PRTNR (prioritize)
  | prtnrPraPrtaNry (w : Width)
  | prtnrPraPrtaNra (w : Width)
  | prtnrPraPrtdNry (w : Width)
  | prtnrPraPrtdNra (w : Width)
  | prtnrPrzPrtaNry (w : Width)
  | prtnrPrzPrtaNra (w : Width)
  | prtnrPrzPrtdNry (w : Width)
  | prtnrPrzPrtdNra (w : Width)
  | prtnrPriPrtaNry (w : Width) (imm : Word)
  | prtnrPriPrtaNra (w : Width) (imm : Word)
  | prtnrPriPrtdNry (w : Width) (imm : Word)
  | prtnrPriPrtdNra (w : Width) (imm : Word)
  -- CRCF (cyclic redundancy code)
  | crcf (a : Reg)
  -- CRCR (cyclic redundancy code)
  | crcr (a : Reg)
  -- SETST (status set, reset and save)
  | setstSonccz
  | setstSl
  | setstSf1
  | setstSf2
  | setstSf3
  -- RSTST (status set, reset and save)
  | rststRonccz
  | rststRl
  | rststRf1
  | rststRf2
  | rststRf3
  -- SVSTR (status set, reset and save)
  | svstr (w : Width) (a : Reg)
  -- SVSTNR (status set, reset and save)
  | svstnrNry (w : Width)
  | svstnrNra (w : Width)
  -- TSTST (status test)
  | tststTnoz
  | tststTno
  | tststTz
  | tststTovr
  | tststTlow
  | tststTc
  | tststTzc
  | tststTn
  | tststTl
  | tststTf1
  | tststTf2
  | tststTf3
  -- NOP (no operation)
  | nop
  deriving DecidableEq, Repr

end Sys2Proof
end

