-- ==== Sys2Proof/Decode.lean ====
section
/-! DEFINITION. The instruction word's fields (R70), the code tables (R80 to R107), the decoder by the
procedure of R108 to R111, and the encoder, with the default of `CODES` and `ROTNR_CODE85`
(notes/assumptions/3.md); then the decoder and the encoder with both as an argument
(notes/assumptions/39.md). -/

namespace Sys2Proof

/-! ## Instructions by format -/

/-- The format and the fields of an instruction: the row of R71 it belongs to. -/
def Instr.format (i : Instr) : Format :=
  match i with
  | .sorMoveSora w a => .sor .move .sora w a
  | .sorMoveSory w a => .sor .move .sory w a
  | .sorMoveSors w a => .sor .move .sors w a
  | .sorMoveSoar w a => .sor .move .soar w a
  | .sorMoveSodr w a => .sor .move .sodr w a
  | .sorMoveSoir w a imm => .sor .move (.soir imm) w a
  | .sorMoveSozr w a => .sor .move .sozr w a
  | .sorMoveSozer w a => .sor .move .sozer w a
  | .sorMoveSoser w a => .sor .move .soser w a
  | .sorMoveSorr w a => .sor .move .sorr w a
  | .sorCompSora w a => .sor .comp .sora w a
  | .sorCompSory w a => .sor .comp .sory w a
  | .sorCompSors w a => .sor .comp .sors w a
  | .sorCompSoar w a => .sor .comp .soar w a
  | .sorCompSodr w a => .sor .comp .sodr w a
  | .sorCompSoir w a imm => .sor .comp (.soir imm) w a
  | .sorCompSozr w a => .sor .comp .sozr w a
  | .sorCompSozer w a => .sor .comp .sozer w a
  | .sorCompSoser w a => .sor .comp .soser w a
  | .sorCompSorr w a => .sor .comp .sorr w a
  | .sorIncSora w a => .sor .inc .sora w a
  | .sorIncSory w a => .sor .inc .sory w a
  | .sorIncSors w a => .sor .inc .sors w a
  | .sorIncSoar w a => .sor .inc .soar w a
  | .sorIncSodr w a => .sor .inc .sodr w a
  | .sorIncSoir w a imm => .sor .inc (.soir imm) w a
  | .sorIncSozr w a => .sor .inc .sozr w a
  | .sorIncSozer w a => .sor .inc .sozer w a
  | .sorIncSoser w a => .sor .inc .soser w a
  | .sorIncSorr w a => .sor .inc .sorr w a
  | .sorNegSora w a => .sor .neg .sora w a
  | .sorNegSory w a => .sor .neg .sory w a
  | .sorNegSors w a => .sor .neg .sors w a
  | .sorNegSoar w a => .sor .neg .soar w a
  | .sorNegSodr w a => .sor .neg .sodr w a
  | .sorNegSoir w a imm => .sor .neg (.soir imm) w a
  | .sorNegSozr w a => .sor .neg .sozr w a
  | .sorNegSozer w a => .sor .neg .sozer w a
  | .sorNegSoser w a => .sor .neg .soser w a
  | .sorNegSorr w a => .sor .neg .sorr w a
  | .sonrMoveSoaNry w => .sonr .move .soa .nry w
  | .sonrMoveSoaNra w => .sonr .move .soa .nra w
  | .sonrMoveSoaNrs w => .sonr .move .soa .nrs w
  | .sonrMoveSoaNras w => .sonr .move .soa .nras w
  | .sonrMoveSodNry w => .sonr .move .sod .nry w
  | .sonrMoveSodNra w => .sonr .move .sod .nra w
  | .sonrMoveSodNrs w => .sonr .move .sod .nrs w
  | .sonrMoveSodNras w => .sonr .move .sod .nras w
  | .sonrMoveSoiNry w imm => .sonr .move (.soi imm) .nry w
  | .sonrMoveSoiNra w imm => .sonr .move (.soi imm) .nra w
  | .sonrMoveSoiNrs w imm => .sonr .move (.soi imm) .nrs w
  | .sonrMoveSoiNras w imm => .sonr .move (.soi imm) .nras w
  | .sonrMoveSozNry w => .sonr .move .soz .nry w
  | .sonrMoveSozNra w => .sonr .move .soz .nra w
  | .sonrMoveSozNrs w => .sonr .move .soz .nrs w
  | .sonrMoveSozNras w => .sonr .move .soz .nras w
  | .sonrMoveSozeNry w => .sonr .move .soze .nry w
  | .sonrMoveSozeNra w => .sonr .move .soze .nra w
  | .sonrMoveSozeNrs w => .sonr .move .soze .nrs w
  | .sonrMoveSozeNras w => .sonr .move .soze .nras w
  | .sonrMoveSoseNry w => .sonr .move .sose .nry w
  | .sonrMoveSoseNra w => .sonr .move .sose .nra w
  | .sonrMoveSoseNrs w => .sonr .move .sose .nrs w
  | .sonrMoveSoseNras w => .sonr .move .sose .nras w
  | .sonrCompSoaNry w => .sonr .comp .soa .nry w
  | .sonrCompSoaNra w => .sonr .comp .soa .nra w
  | .sonrCompSoaNrs w => .sonr .comp .soa .nrs w
  | .sonrCompSoaNras w => .sonr .comp .soa .nras w
  | .sonrCompSodNry w => .sonr .comp .sod .nry w
  | .sonrCompSodNra w => .sonr .comp .sod .nra w
  | .sonrCompSodNrs w => .sonr .comp .sod .nrs w
  | .sonrCompSodNras w => .sonr .comp .sod .nras w
  | .sonrCompSoiNry w imm => .sonr .comp (.soi imm) .nry w
  | .sonrCompSoiNra w imm => .sonr .comp (.soi imm) .nra w
  | .sonrCompSoiNrs w imm => .sonr .comp (.soi imm) .nrs w
  | .sonrCompSoiNras w imm => .sonr .comp (.soi imm) .nras w
  | .sonrCompSozNry w => .sonr .comp .soz .nry w
  | .sonrCompSozNra w => .sonr .comp .soz .nra w
  | .sonrCompSozNrs w => .sonr .comp .soz .nrs w
  | .sonrCompSozNras w => .sonr .comp .soz .nras w
  | .sonrCompSozeNry w => .sonr .comp .soze .nry w
  | .sonrCompSozeNra w => .sonr .comp .soze .nra w
  | .sonrCompSozeNrs w => .sonr .comp .soze .nrs w
  | .sonrCompSozeNras w => .sonr .comp .soze .nras w
  | .sonrCompSoseNry w => .sonr .comp .sose .nry w
  | .sonrCompSoseNra w => .sonr .comp .sose .nra w
  | .sonrCompSoseNrs w => .sonr .comp .sose .nrs w
  | .sonrCompSoseNras w => .sonr .comp .sose .nras w
  | .sonrIncSoaNry w => .sonr .inc .soa .nry w
  | .sonrIncSoaNra w => .sonr .inc .soa .nra w
  | .sonrIncSoaNrs w => .sonr .inc .soa .nrs w
  | .sonrIncSoaNras w => .sonr .inc .soa .nras w
  | .sonrIncSodNry w => .sonr .inc .sod .nry w
  | .sonrIncSodNra w => .sonr .inc .sod .nra w
  | .sonrIncSodNrs w => .sonr .inc .sod .nrs w
  | .sonrIncSodNras w => .sonr .inc .sod .nras w
  | .sonrIncSoiNry w imm => .sonr .inc (.soi imm) .nry w
  | .sonrIncSoiNra w imm => .sonr .inc (.soi imm) .nra w
  | .sonrIncSoiNrs w imm => .sonr .inc (.soi imm) .nrs w
  | .sonrIncSoiNras w imm => .sonr .inc (.soi imm) .nras w
  | .sonrIncSozNry w => .sonr .inc .soz .nry w
  | .sonrIncSozNra w => .sonr .inc .soz .nra w
  | .sonrIncSozNrs w => .sonr .inc .soz .nrs w
  | .sonrIncSozNras w => .sonr .inc .soz .nras w
  | .sonrIncSozeNry w => .sonr .inc .soze .nry w
  | .sonrIncSozeNra w => .sonr .inc .soze .nra w
  | .sonrIncSozeNrs w => .sonr .inc .soze .nrs w
  | .sonrIncSozeNras w => .sonr .inc .soze .nras w
  | .sonrIncSoseNry w => .sonr .inc .sose .nry w
  | .sonrIncSoseNra w => .sonr .inc .sose .nra w
  | .sonrIncSoseNrs w => .sonr .inc .sose .nrs w
  | .sonrIncSoseNras w => .sonr .inc .sose .nras w
  | .sonrNegSoaNry w => .sonr .neg .soa .nry w
  | .sonrNegSoaNra w => .sonr .neg .soa .nra w
  | .sonrNegSoaNrs w => .sonr .neg .soa .nrs w
  | .sonrNegSoaNras w => .sonr .neg .soa .nras w
  | .sonrNegSodNry w => .sonr .neg .sod .nry w
  | .sonrNegSodNra w => .sonr .neg .sod .nra w
  | .sonrNegSodNrs w => .sonr .neg .sod .nrs w
  | .sonrNegSodNras w => .sonr .neg .sod .nras w
  | .sonrNegSoiNry w imm => .sonr .neg (.soi imm) .nry w
  | .sonrNegSoiNra w imm => .sonr .neg (.soi imm) .nra w
  | .sonrNegSoiNrs w imm => .sonr .neg (.soi imm) .nrs w
  | .sonrNegSoiNras w imm => .sonr .neg (.soi imm) .nras w
  | .sonrNegSozNry w => .sonr .neg .soz .nry w
  | .sonrNegSozNra w => .sonr .neg .soz .nra w
  | .sonrNegSozNrs w => .sonr .neg .soz .nrs w
  | .sonrNegSozNras w => .sonr .neg .soz .nras w
  | .sonrNegSozeNry w => .sonr .neg .soze .nry w
  | .sonrNegSozeNra w => .sonr .neg .soze .nra w
  | .sonrNegSozeNrs w => .sonr .neg .soze .nrs w
  | .sonrNegSozeNras w => .sonr .neg .soze .nras w
  | .sonrNegSoseNry w => .sonr .neg .sose .nry w
  | .sonrNegSoseNra w => .sonr .neg .sose .nra w
  | .sonrNegSoseNrs w => .sonr .neg .sose .nrs w
  | .sonrNegSoseNras w => .sonr .neg .sose .nras w
  | .tor1ToraaSubr w a => .tor1 .toraa .subr w a
  | .tor1ToriaSubr w a imm => .tor1 (.toria imm) .subr w a
  | .tor1TodraSubr w a => .tor1 .todra .subr w a
  | .tor1ToraySubr w a => .tor1 .toray .subr w a
  | .tor1ToriySubr w a imm => .tor1 (.toriy imm) .subr w a
  | .tor1TodrySubr w a => .tor1 .todry .subr w a
  | .tor1TorarSubr w a => .tor1 .torar .subr w a
  | .tor1TorirSubr w a imm => .tor1 (.torir imm) .subr w a
  | .tor1TodrrSubr w a => .tor1 .todrr .subr w a
  | .tor1ToraaSubrc w a => .tor1 .toraa .subrc w a
  | .tor1ToriaSubrc w a imm => .tor1 (.toria imm) .subrc w a
  | .tor1TodraSubrc w a => .tor1 .todra .subrc w a
  | .tor1ToraySubrc w a => .tor1 .toray .subrc w a
  | .tor1ToriySubrc w a imm => .tor1 (.toriy imm) .subrc w a
  | .tor1TodrySubrc w a => .tor1 .todry .subrc w a
  | .tor1TorarSubrc w a => .tor1 .torar .subrc w a
  | .tor1TorirSubrc w a imm => .tor1 (.torir imm) .subrc w a
  | .tor1TodrrSubrc w a => .tor1 .todrr .subrc w a
  | .tor1ToraaSubs w a => .tor1 .toraa .subs w a
  | .tor1ToriaSubs w a imm => .tor1 (.toria imm) .subs w a
  | .tor1TodraSubs w a => .tor1 .todra .subs w a
  | .tor1ToraySubs w a => .tor1 .toray .subs w a
  | .tor1ToriySubs w a imm => .tor1 (.toriy imm) .subs w a
  | .tor1TodrySubs w a => .tor1 .todry .subs w a
  | .tor1TorarSubs w a => .tor1 .torar .subs w a
  | .tor1TorirSubs w a imm => .tor1 (.torir imm) .subs w a
  | .tor1TodrrSubs w a => .tor1 .todrr .subs w a
  | .tor1ToraaSubsc w a => .tor1 .toraa .subsc w a
  | .tor1ToriaSubsc w a imm => .tor1 (.toria imm) .subsc w a
  | .tor1TodraSubsc w a => .tor1 .todra .subsc w a
  | .tor1ToraySubsc w a => .tor1 .toray .subsc w a
  | .tor1ToriySubsc w a imm => .tor1 (.toriy imm) .subsc w a
  | .tor1TodrySubsc w a => .tor1 .todry .subsc w a
  | .tor1TorarSubsc w a => .tor1 .torar .subsc w a
  | .tor1TorirSubsc w a imm => .tor1 (.torir imm) .subsc w a
  | .tor1TodrrSubsc w a => .tor1 .todrr .subsc w a
  | .tor1ToraaAdd w a => .tor1 .toraa .add w a
  | .tor1ToriaAdd w a imm => .tor1 (.toria imm) .add w a
  | .tor1TodraAdd w a => .tor1 .todra .add w a
  | .tor1TorayAdd w a => .tor1 .toray .add w a
  | .tor1ToriyAdd w a imm => .tor1 (.toriy imm) .add w a
  | .tor1TodryAdd w a => .tor1 .todry .add w a
  | .tor1TorarAdd w a => .tor1 .torar .add w a
  | .tor1TorirAdd w a imm => .tor1 (.torir imm) .add w a
  | .tor1TodrrAdd w a => .tor1 .todrr .add w a
  | .tor1ToraaAddc w a => .tor1 .toraa .addc w a
  | .tor1ToriaAddc w a imm => .tor1 (.toria imm) .addc w a
  | .tor1TodraAddc w a => .tor1 .todra .addc w a
  | .tor1TorayAddc w a => .tor1 .toray .addc w a
  | .tor1ToriyAddc w a imm => .tor1 (.toriy imm) .addc w a
  | .tor1TodryAddc w a => .tor1 .todry .addc w a
  | .tor1TorarAddc w a => .tor1 .torar .addc w a
  | .tor1TorirAddc w a imm => .tor1 (.torir imm) .addc w a
  | .tor1TodrrAddc w a => .tor1 .todrr .addc w a
  | .tor1ToraaAnd w a => .tor1 .toraa .and w a
  | .tor1ToriaAnd w a imm => .tor1 (.toria imm) .and w a
  | .tor1TodraAnd w a => .tor1 .todra .and w a
  | .tor1TorayAnd w a => .tor1 .toray .and w a
  | .tor1ToriyAnd w a imm => .tor1 (.toriy imm) .and w a
  | .tor1TodryAnd w a => .tor1 .todry .and w a
  | .tor1TorarAnd w a => .tor1 .torar .and w a
  | .tor1TorirAnd w a imm => .tor1 (.torir imm) .and w a
  | .tor1TodrrAnd w a => .tor1 .todrr .and w a
  | .tor1ToraaNand w a => .tor1 .toraa .nand w a
  | .tor1ToriaNand w a imm => .tor1 (.toria imm) .nand w a
  | .tor1TodraNand w a => .tor1 .todra .nand w a
  | .tor1TorayNand w a => .tor1 .toray .nand w a
  | .tor1ToriyNand w a imm => .tor1 (.toriy imm) .nand w a
  | .tor1TodryNand w a => .tor1 .todry .nand w a
  | .tor1TorarNand w a => .tor1 .torar .nand w a
  | .tor1TorirNand w a imm => .tor1 (.torir imm) .nand w a
  | .tor1TodrrNand w a => .tor1 .todrr .nand w a
  | .tor1ToraaExor w a => .tor1 .toraa .exor w a
  | .tor1ToriaExor w a imm => .tor1 (.toria imm) .exor w a
  | .tor1TodraExor w a => .tor1 .todra .exor w a
  | .tor1TorayExor w a => .tor1 .toray .exor w a
  | .tor1ToriyExor w a imm => .tor1 (.toriy imm) .exor w a
  | .tor1TodryExor w a => .tor1 .todry .exor w a
  | .tor1TorarExor w a => .tor1 .torar .exor w a
  | .tor1TorirExor w a imm => .tor1 (.torir imm) .exor w a
  | .tor1TodrrExor w a => .tor1 .todrr .exor w a
  | .tor1ToraaNor w a => .tor1 .toraa .nor w a
  | .tor1ToriaNor w a imm => .tor1 (.toria imm) .nor w a
  | .tor1TodraNor w a => .tor1 .todra .nor w a
  | .tor1TorayNor w a => .tor1 .toray .nor w a
  | .tor1ToriyNor w a imm => .tor1 (.toriy imm) .nor w a
  | .tor1TodryNor w a => .tor1 .todry .nor w a
  | .tor1TorarNor w a => .tor1 .torar .nor w a
  | .tor1TorirNor w a imm => .tor1 (.torir imm) .nor w a
  | .tor1TodrrNor w a => .tor1 .todrr .nor w a
  | .tor1ToraaOr w a => .tor1 .toraa .or w a
  | .tor1ToriaOr w a imm => .tor1 (.toria imm) .or w a
  | .tor1TodraOr w a => .tor1 .todra .or w a
  | .tor1TorayOr w a => .tor1 .toray .or w a
  | .tor1ToriyOr w a imm => .tor1 (.toriy imm) .or w a
  | .tor1TodryOr w a => .tor1 .todry .or w a
  | .tor1TorarOr w a => .tor1 .torar .or w a
  | .tor1TorirOr w a imm => .tor1 (.torir imm) .or w a
  | .tor1TodrrOr w a => .tor1 .todrr .or w a
  | .tor1ToraaExnor w a => .tor1 .toraa .exnor w a
  | .tor1ToriaExnor w a imm => .tor1 (.toria imm) .exnor w a
  | .tor1TodraExnor w a => .tor1 .todra .exnor w a
  | .tor1TorayExnor w a => .tor1 .toray .exnor w a
  | .tor1ToriyExnor w a imm => .tor1 (.toriy imm) .exnor w a
  | .tor1TodryExnor w a => .tor1 .todry .exnor w a
  | .tor1TorarExnor w a => .tor1 .torar .exnor w a
  | .tor1TorirExnor w a imm => .tor1 (.torir imm) .exnor w a
  | .tor1TodrrExnor w a => .tor1 .todrr .exnor w a
  | .tor2TodarSubr w a => .tor2 .todar .subr w a
  | .tor2ToairSubr w a imm => .tor2 (.toair imm) .subr w a
  | .tor2TodirSubr w a imm => .tor2 (.todir imm) .subr w a
  | .tor2TodarSubrc w a => .tor2 .todar .subrc w a
  | .tor2ToairSubrc w a imm => .tor2 (.toair imm) .subrc w a
  | .tor2TodirSubrc w a imm => .tor2 (.todir imm) .subrc w a
  | .tor2TodarSubs w a => .tor2 .todar .subs w a
  | .tor2ToairSubs w a imm => .tor2 (.toair imm) .subs w a
  | .tor2TodirSubs w a imm => .tor2 (.todir imm) .subs w a
  | .tor2TodarSubsc w a => .tor2 .todar .subsc w a
  | .tor2ToairSubsc w a imm => .tor2 (.toair imm) .subsc w a
  | .tor2TodirSubsc w a imm => .tor2 (.todir imm) .subsc w a
  | .tor2TodarAdd w a => .tor2 .todar .add w a
  | .tor2ToairAdd w a imm => .tor2 (.toair imm) .add w a
  | .tor2TodirAdd w a imm => .tor2 (.todir imm) .add w a
  | .tor2TodarAddc w a => .tor2 .todar .addc w a
  | .tor2ToairAddc w a imm => .tor2 (.toair imm) .addc w a
  | .tor2TodirAddc w a imm => .tor2 (.todir imm) .addc w a
  | .tor2TodarAnd w a => .tor2 .todar .and w a
  | .tor2ToairAnd w a imm => .tor2 (.toair imm) .and w a
  | .tor2TodirAnd w a imm => .tor2 (.todir imm) .and w a
  | .tor2TodarNand w a => .tor2 .todar .nand w a
  | .tor2ToairNand w a imm => .tor2 (.toair imm) .nand w a
  | .tor2TodirNand w a imm => .tor2 (.todir imm) .nand w a
  | .tor2TodarExor w a => .tor2 .todar .exor w a
  | .tor2ToairExor w a imm => .tor2 (.toair imm) .exor w a
  | .tor2TodirExor w a imm => .tor2 (.todir imm) .exor w a
  | .tor2TodarNor w a => .tor2 .todar .nor w a
  | .tor2ToairNor w a imm => .tor2 (.toair imm) .nor w a
  | .tor2TodirNor w a imm => .tor2 (.todir imm) .nor w a
  | .tor2TodarOr w a => .tor2 .todar .or w a
  | .tor2ToairOr w a imm => .tor2 (.toair imm) .or w a
  | .tor2TodirOr w a imm => .tor2 (.todir imm) .or w a
  | .tor2TodarExnor w a => .tor2 .todar .exnor w a
  | .tor2ToairExnor w a imm => .tor2 (.toair imm) .exnor w a
  | .tor2TodirExnor w a imm => .tor2 (.todir imm) .exnor w a
  | .tonrTodaSubrNry w => .tonr .toda .subr .nry w
  | .tonrTodaSubrNra w => .tonr .toda .subr .nra w
  | .tonrTodaSubrNrs w => .tonr .toda .subr .nrs w
  | .tonrTodaSubrNras w => .tonr .toda .subr .nras w
  | .tonrToaiSubrNry w imm => .tonr (.toai imm) .subr .nry w
  | .tonrToaiSubrNra w imm => .tonr (.toai imm) .subr .nra w
  | .tonrToaiSubrNrs w imm => .tonr (.toai imm) .subr .nrs w
  | .tonrToaiSubrNras w imm => .tonr (.toai imm) .subr .nras w
  | .tonrTodiSubrNry w imm => .tonr (.todi imm) .subr .nry w
  | .tonrTodiSubrNra w imm => .tonr (.todi imm) .subr .nra w
  | .tonrTodiSubrNrs w imm => .tonr (.todi imm) .subr .nrs w
  | .tonrTodiSubrNras w imm => .tonr (.todi imm) .subr .nras w
  | .tonrTodaSubrcNry w => .tonr .toda .subrc .nry w
  | .tonrTodaSubrcNra w => .tonr .toda .subrc .nra w
  | .tonrTodaSubrcNrs w => .tonr .toda .subrc .nrs w
  | .tonrTodaSubrcNras w => .tonr .toda .subrc .nras w
  | .tonrToaiSubrcNry w imm => .tonr (.toai imm) .subrc .nry w
  | .tonrToaiSubrcNra w imm => .tonr (.toai imm) .subrc .nra w
  | .tonrToaiSubrcNrs w imm => .tonr (.toai imm) .subrc .nrs w
  | .tonrToaiSubrcNras w imm => .tonr (.toai imm) .subrc .nras w
  | .tonrTodiSubrcNry w imm => .tonr (.todi imm) .subrc .nry w
  | .tonrTodiSubrcNra w imm => .tonr (.todi imm) .subrc .nra w
  | .tonrTodiSubrcNrs w imm => .tonr (.todi imm) .subrc .nrs w
  | .tonrTodiSubrcNras w imm => .tonr (.todi imm) .subrc .nras w
  | .tonrTodaSubsNry w => .tonr .toda .subs .nry w
  | .tonrTodaSubsNra w => .tonr .toda .subs .nra w
  | .tonrTodaSubsNrs w => .tonr .toda .subs .nrs w
  | .tonrTodaSubsNras w => .tonr .toda .subs .nras w
  | .tonrToaiSubsNry w imm => .tonr (.toai imm) .subs .nry w
  | .tonrToaiSubsNra w imm => .tonr (.toai imm) .subs .nra w
  | .tonrToaiSubsNrs w imm => .tonr (.toai imm) .subs .nrs w
  | .tonrToaiSubsNras w imm => .tonr (.toai imm) .subs .nras w
  | .tonrTodiSubsNry w imm => .tonr (.todi imm) .subs .nry w
  | .tonrTodiSubsNra w imm => .tonr (.todi imm) .subs .nra w
  | .tonrTodiSubsNrs w imm => .tonr (.todi imm) .subs .nrs w
  | .tonrTodiSubsNras w imm => .tonr (.todi imm) .subs .nras w
  | .tonrTodaSubscNry w => .tonr .toda .subsc .nry w
  | .tonrTodaSubscNra w => .tonr .toda .subsc .nra w
  | .tonrTodaSubscNrs w => .tonr .toda .subsc .nrs w
  | .tonrTodaSubscNras w => .tonr .toda .subsc .nras w
  | .tonrToaiSubscNry w imm => .tonr (.toai imm) .subsc .nry w
  | .tonrToaiSubscNra w imm => .tonr (.toai imm) .subsc .nra w
  | .tonrToaiSubscNrs w imm => .tonr (.toai imm) .subsc .nrs w
  | .tonrToaiSubscNras w imm => .tonr (.toai imm) .subsc .nras w
  | .tonrTodiSubscNry w imm => .tonr (.todi imm) .subsc .nry w
  | .tonrTodiSubscNra w imm => .tonr (.todi imm) .subsc .nra w
  | .tonrTodiSubscNrs w imm => .tonr (.todi imm) .subsc .nrs w
  | .tonrTodiSubscNras w imm => .tonr (.todi imm) .subsc .nras w
  | .tonrTodaAddNry w => .tonr .toda .add .nry w
  | .tonrTodaAddNra w => .tonr .toda .add .nra w
  | .tonrTodaAddNrs w => .tonr .toda .add .nrs w
  | .tonrTodaAddNras w => .tonr .toda .add .nras w
  | .tonrToaiAddNry w imm => .tonr (.toai imm) .add .nry w
  | .tonrToaiAddNra w imm => .tonr (.toai imm) .add .nra w
  | .tonrToaiAddNrs w imm => .tonr (.toai imm) .add .nrs w
  | .tonrToaiAddNras w imm => .tonr (.toai imm) .add .nras w
  | .tonrTodiAddNry w imm => .tonr (.todi imm) .add .nry w
  | .tonrTodiAddNra w imm => .tonr (.todi imm) .add .nra w
  | .tonrTodiAddNrs w imm => .tonr (.todi imm) .add .nrs w
  | .tonrTodiAddNras w imm => .tonr (.todi imm) .add .nras w
  | .tonrTodaAddcNry w => .tonr .toda .addc .nry w
  | .tonrTodaAddcNra w => .tonr .toda .addc .nra w
  | .tonrTodaAddcNrs w => .tonr .toda .addc .nrs w
  | .tonrTodaAddcNras w => .tonr .toda .addc .nras w
  | .tonrToaiAddcNry w imm => .tonr (.toai imm) .addc .nry w
  | .tonrToaiAddcNra w imm => .tonr (.toai imm) .addc .nra w
  | .tonrToaiAddcNrs w imm => .tonr (.toai imm) .addc .nrs w
  | .tonrToaiAddcNras w imm => .tonr (.toai imm) .addc .nras w
  | .tonrTodiAddcNry w imm => .tonr (.todi imm) .addc .nry w
  | .tonrTodiAddcNra w imm => .tonr (.todi imm) .addc .nra w
  | .tonrTodiAddcNrs w imm => .tonr (.todi imm) .addc .nrs w
  | .tonrTodiAddcNras w imm => .tonr (.todi imm) .addc .nras w
  | .tonrTodaAndNry w => .tonr .toda .and .nry w
  | .tonrTodaAndNra w => .tonr .toda .and .nra w
  | .tonrTodaAndNrs w => .tonr .toda .and .nrs w
  | .tonrTodaAndNras w => .tonr .toda .and .nras w
  | .tonrToaiAndNry w imm => .tonr (.toai imm) .and .nry w
  | .tonrToaiAndNra w imm => .tonr (.toai imm) .and .nra w
  | .tonrToaiAndNrs w imm => .tonr (.toai imm) .and .nrs w
  | .tonrToaiAndNras w imm => .tonr (.toai imm) .and .nras w
  | .tonrTodiAndNry w imm => .tonr (.todi imm) .and .nry w
  | .tonrTodiAndNra w imm => .tonr (.todi imm) .and .nra w
  | .tonrTodiAndNrs w imm => .tonr (.todi imm) .and .nrs w
  | .tonrTodiAndNras w imm => .tonr (.todi imm) .and .nras w
  | .tonrTodaNandNry w => .tonr .toda .nand .nry w
  | .tonrTodaNandNra w => .tonr .toda .nand .nra w
  | .tonrTodaNandNrs w => .tonr .toda .nand .nrs w
  | .tonrTodaNandNras w => .tonr .toda .nand .nras w
  | .tonrToaiNandNry w imm => .tonr (.toai imm) .nand .nry w
  | .tonrToaiNandNra w imm => .tonr (.toai imm) .nand .nra w
  | .tonrToaiNandNrs w imm => .tonr (.toai imm) .nand .nrs w
  | .tonrToaiNandNras w imm => .tonr (.toai imm) .nand .nras w
  | .tonrTodiNandNry w imm => .tonr (.todi imm) .nand .nry w
  | .tonrTodiNandNra w imm => .tonr (.todi imm) .nand .nra w
  | .tonrTodiNandNrs w imm => .tonr (.todi imm) .nand .nrs w
  | .tonrTodiNandNras w imm => .tonr (.todi imm) .nand .nras w
  | .tonrTodaExorNry w => .tonr .toda .exor .nry w
  | .tonrTodaExorNra w => .tonr .toda .exor .nra w
  | .tonrTodaExorNrs w => .tonr .toda .exor .nrs w
  | .tonrTodaExorNras w => .tonr .toda .exor .nras w
  | .tonrToaiExorNry w imm => .tonr (.toai imm) .exor .nry w
  | .tonrToaiExorNra w imm => .tonr (.toai imm) .exor .nra w
  | .tonrToaiExorNrs w imm => .tonr (.toai imm) .exor .nrs w
  | .tonrToaiExorNras w imm => .tonr (.toai imm) .exor .nras w
  | .tonrTodiExorNry w imm => .tonr (.todi imm) .exor .nry w
  | .tonrTodiExorNra w imm => .tonr (.todi imm) .exor .nra w
  | .tonrTodiExorNrs w imm => .tonr (.todi imm) .exor .nrs w
  | .tonrTodiExorNras w imm => .tonr (.todi imm) .exor .nras w
  | .tonrTodaNorNry w => .tonr .toda .nor .nry w
  | .tonrTodaNorNra w => .tonr .toda .nor .nra w
  | .tonrTodaNorNrs w => .tonr .toda .nor .nrs w
  | .tonrTodaNorNras w => .tonr .toda .nor .nras w
  | .tonrToaiNorNry w imm => .tonr (.toai imm) .nor .nry w
  | .tonrToaiNorNra w imm => .tonr (.toai imm) .nor .nra w
  | .tonrToaiNorNrs w imm => .tonr (.toai imm) .nor .nrs w
  | .tonrToaiNorNras w imm => .tonr (.toai imm) .nor .nras w
  | .tonrTodiNorNry w imm => .tonr (.todi imm) .nor .nry w
  | .tonrTodiNorNra w imm => .tonr (.todi imm) .nor .nra w
  | .tonrTodiNorNrs w imm => .tonr (.todi imm) .nor .nrs w
  | .tonrTodiNorNras w imm => .tonr (.todi imm) .nor .nras w
  | .tonrTodaOrNry w => .tonr .toda .or .nry w
  | .tonrTodaOrNra w => .tonr .toda .or .nra w
  | .tonrTodaOrNrs w => .tonr .toda .or .nrs w
  | .tonrTodaOrNras w => .tonr .toda .or .nras w
  | .tonrToaiOrNry w imm => .tonr (.toai imm) .or .nry w
  | .tonrToaiOrNra w imm => .tonr (.toai imm) .or .nra w
  | .tonrToaiOrNrs w imm => .tonr (.toai imm) .or .nrs w
  | .tonrToaiOrNras w imm => .tonr (.toai imm) .or .nras w
  | .tonrTodiOrNry w imm => .tonr (.todi imm) .or .nry w
  | .tonrTodiOrNra w imm => .tonr (.todi imm) .or .nra w
  | .tonrTodiOrNrs w imm => .tonr (.todi imm) .or .nrs w
  | .tonrTodiOrNras w imm => .tonr (.todi imm) .or .nras w
  | .tonrTodaExnorNry w => .tonr .toda .exnor .nry w
  | .tonrTodaExnorNra w => .tonr .toda .exnor .nra w
  | .tonrTodaExnorNrs w => .tonr .toda .exnor .nrs w
  | .tonrTodaExnorNras w => .tonr .toda .exnor .nras w
  | .tonrToaiExnorNry w imm => .tonr (.toai imm) .exnor .nry w
  | .tonrToaiExnorNra w imm => .tonr (.toai imm) .exnor .nra w
  | .tonrToaiExnorNrs w imm => .tonr (.toai imm) .exnor .nrs w
  | .tonrToaiExnorNras w imm => .tonr (.toai imm) .exnor .nras w
  | .tonrTodiExnorNry w imm => .tonr (.todi imm) .exnor .nry w
  | .tonrTodiExnorNra w imm => .tonr (.todi imm) .exnor .nra w
  | .tonrTodiExnorNrs w imm => .tonr (.todi imm) .exnor .nrs w
  | .tonrTodiExnorNras w imm => .tonr (.todi imm) .exnor .nras w
  | .shftrShrrShupz w a => .shftr .shrr .shupz w a
  | .shftrShdrShupz w a => .shftr .shdr .shupz w a
  | .shftrShrrShup1 w a => .shftr .shrr .shup1 w a
  | .shftrShdrShup1 w a => .shftr .shdr .shup1 w a
  | .shftrShrrShupl w a => .shftr .shrr .shupl w a
  | .shftrShdrShupl w a => .shftr .shdr .shupl w a
  | .shftrShrrShdnz w a => .shftr .shrr .shdnz w a
  | .shftrShdrShdnz w a => .shftr .shdr .shdnz w a
  | .shftrShrrShdn1 w a => .shftr .shrr .shdn1 w a
  | .shftrShdrShdn1 w a => .shftr .shdr .shdn1 w a
  | .shftrShrrShdnl w a => .shftr .shrr .shdnl w a
  | .shftrShdrShdnl w a => .shftr .shdr .shdnl w a
  | .shftrShrrShdnc w a => .shftr .shrr .shdnc w a
  | .shftrShdrShdnc w a => .shftr .shdr .shdnc w a
  | .shftrShrrShdnov w a => .shftr .shrr .shdnov w a
  | .shftrShdrShdnov w a => .shftr .shdr .shdnov w a
  | .shftnrShaShupzNry w => .shftnr .sha .shupz .nry w
  | .shftnrShaShupzNra w => .shftnr .sha .shupz .nra w
  | .shftnrShdShupzNry w => .shftnr .shd .shupz .nry w
  | .shftnrShdShupzNra w => .shftnr .shd .shupz .nra w
  | .shftnrShaShup1Nry w => .shftnr .sha .shup1 .nry w
  | .shftnrShaShup1Nra w => .shftnr .sha .shup1 .nra w
  | .shftnrShdShup1Nry w => .shftnr .shd .shup1 .nry w
  | .shftnrShdShup1Nra w => .shftnr .shd .shup1 .nra w
  | .shftnrShaShuplNry w => .shftnr .sha .shupl .nry w
  | .shftnrShaShuplNra w => .shftnr .sha .shupl .nra w
  | .shftnrShdShuplNry w => .shftnr .shd .shupl .nry w
  | .shftnrShdShuplNra w => .shftnr .shd .shupl .nra w
  | .shftnrShaShdnzNry w => .shftnr .sha .shdnz .nry w
  | .shftnrShaShdnzNra w => .shftnr .sha .shdnz .nra w
  | .shftnrShdShdnzNry w => .shftnr .shd .shdnz .nry w
  | .shftnrShdShdnzNra w => .shftnr .shd .shdnz .nra w
  | .shftnrShaShdn1Nry w => .shftnr .sha .shdn1 .nry w
  | .shftnrShaShdn1Nra w => .shftnr .sha .shdn1 .nra w
  | .shftnrShdShdn1Nry w => .shftnr .shd .shdn1 .nry w
  | .shftnrShdShdn1Nra w => .shftnr .shd .shdn1 .nra w
  | .shftnrShaShdnlNry w => .shftnr .sha .shdnl .nry w
  | .shftnrShaShdnlNra w => .shftnr .sha .shdnl .nra w
  | .shftnrShdShdnlNry w => .shftnr .shd .shdnl .nry w
  | .shftnrShdShdnlNra w => .shftnr .shd .shdnl .nra w
  | .shftnrShaShdncNry w => .shftnr .sha .shdnc .nry w
  | .shftnrShaShdncNra w => .shftnr .sha .shdnc .nra w
  | .shftnrShdShdncNry w => .shftnr .shd .shdnc .nry w
  | .shftnrShdShdncNra w => .shftnr .shd .shdnc .nra w
  | .shftnrShaShdnovNry w => .shftnr .sha .shdnov .nry w
  | .shftnrShaShdnovNra w => .shftnr .sha .shdnov .nra w
  | .shftnrShdShdnovNry w => .shftnr .shd .shdnov .nry w
  | .shftnrShdShdnovNra w => .shftnr .shd .shdnov .nra w
  | .bor1Setnr w n a => .bor1 .setnr w n a
  | .bor1Rstnr w n a => .bor1 .rstnr w n a
  | .bor1Tstnr w n a => .bor1 .tstnr w n a
  | .bor2Ld2nr w n a => .bor2 .ld2nr w n a
  | .bor2Ldc2nr w n a => .bor2 .ldc2nr w n a
  | .bor2A2nr w n a => .bor2 .a2nr w n a
  | .bor2S2nr w n a => .bor2 .s2nr w n a
  | .bonrTstna w n => .bonr .tstna w n
  | .bonrRstna w n => .bonr .rstna w n
  | .bonrSetna w n => .bonr .setna w n
  | .bonrA2na w n => .bonr .a2na w n
  | .bonrS2na w n => .bonr .s2na w n
  | .bonrLd2na w n => .bonr .ld2na w n
  | .bonrLdc2na w n => .bonr .ldc2na w n
  | .bonrTstnd w n => .bonr .tstnd w n
  | .bonrRstnd w n => .bonr .rstnd w n
  | .bonrSetnd w n => .bonr .setnd w n
  | .bonrA2ndy w n => .bonr .a2ndy w n
  | .bonrS2ndy w n => .bonr .s2ndy w n
  | .bonrLd2ny w n => .bonr .ld2ny w n
  | .bonrLdc2ny w n => .bonr .ldc2ny w n
  | .rotr1Rtra w n a => .rotr1 .rtra w n a
  | .rotr1Rtry w n a => .rotr1 .rtry w n a
  | .rotr1Rtrr w n a => .rotr1 .rtrr w n a
  | .rotr2Rtar w n a => .rotr2 .rtar w n a
  | .rotr2Rtdr w n a => .rotr2 .rtdr w n a
  | .rotnrRtdy w n => .rotnr .rtdy w n
  | .rotnrRtda w n => .rotnr .rtda w n
  | .rotnrRtay w n => .rotnr .rtay w n
  | .rotnrRtaa w n => .rotnr .rtaa w n
  | .rotcCdai w n a imm => .rotc (.cdai imm) w n a
  | .rotcCdri w n a imm => .rotc (.cdri imm) w n a
  | .rotcCdra w n a => .rotc .cdra w n a
  | .rotcCrai w n a imm => .rotc (.crai imm) w n a
  | .rotmMdai w n a imm => .rotm (.mdai imm) w n a
  | .rotmMdar w n a => .rotm .mdar w n a
  | .rotmMdri w n a imm => .rotm (.mdri imm) w n a
  | .rotmMdra w n a => .rotm .mdra w n a
  | .rotmMari w n a imm => .rotm (.mari imm) w n a
  | .rotmMrai w n a imm => .rotm (.mrai imm) w n a
  | .prt1Pr1aPrt1a w a => .prt1 .pr1a .prt1a w a
  | .prt1Pr1aPrt1d w a => .prt1 .pr1a .prt1d w a
  | .prt1Pr1yPrt1a w a => .prt1 .pr1y .prt1a w a
  | .prt1Pr1yPrt1d w a => .prt1 .pr1y .prt1d w a
  | .prt1Pr1rPrt1a w a => .prt1 .pr1r .prt1a w a
  | .prt1Pr1rPrt1d w a => .prt1 .pr1r .prt1d w a
  | .prt2PraPr2a w a => .prt2 .pra .pr2a w a
  | .prt2PraPr2y w a => .prt2 .pra .pr2y w a
  | .prt2PrzPr2a w a => .prt2 .prz .pr2a w a
  | .prt2PrzPr2y w a => .prt2 .prz .pr2y w a
  | .prt2PriPr2a w a imm => .prt2 (.pri imm) .pr2a w a
  | .prt2PriPr2y w a imm => .prt2 (.pri imm) .pr2y w a
  | .prt3PraPr3r w a => .prt3 .pra .pr3r w a
  | .prt3PraPr3a w a => .prt3 .pra .pr3a w a
  | .prt3PraPr3d w a => .prt3 .pra .pr3d w a
  | .prt3PrzPr3r w a => .prt3 .prz .pr3r w a
  | .prt3PrzPr3a w a => .prt3 .prz .pr3a w a
  | .prt3PrzPr3d w a => .prt3 .prz .pr3d w a
  | .prt3PriPr3r w a imm => .prt3 (.pri imm) .pr3r w a
  | .prt3PriPr3a w a imm => .prt3 (.pri imm) .pr3a w a
  | .prt3PriPr3d w a imm => .prt3 (.pri imm) .pr3d w a
  | .prtnrPraPrtaNry w => .prtnr .pra .prta .nry w
  | .prtnrPraPrtaNra w => .prtnr .pra .prta .nra w
  | .prtnrPraPrtdNry w => .prtnr .pra .prtd .nry w
  | .prtnrPraPrtdNra w => .prtnr .pra .prtd .nra w
  | .prtnrPrzPrtaNry w => .prtnr .prz .prta .nry w
  | .prtnrPrzPrtaNra w => .prtnr .prz .prta .nra w
  | .prtnrPrzPrtdNry w => .prtnr .prz .prtd .nry w
  | .prtnrPrzPrtdNra w => .prtnr .prz .prtd .nra w
  | .prtnrPriPrtaNry w imm => .prtnr (.pri imm) .prta .nry w
  | .prtnrPriPrtaNra w imm => .prtnr (.pri imm) .prta .nra w
  | .prtnrPriPrtdNry w imm => .prtnr (.pri imm) .prtd .nry w
  | .prtnrPriPrtdNra w imm => .prtnr (.pri imm) .prtd .nra w
  | .crcf a => .crcf a
  | .crcr a => .crcr a
  | .setstSonccz => .setst .sonccz
  | .setstSl => .setst .sl
  | .setstSf1 => .setst .sf1
  | .setstSf2 => .setst .sf2
  | .setstSf3 => .setst .sf3
  | .rststRonccz => .rstst .ronccz
  | .rststRl => .rstst .rl
  | .rststRf1 => .rstst .rf1
  | .rststRf2 => .rstst .rf2
  | .rststRf3 => .rstst .rf3
  | .svstr w a => .svstr w a
  | .svstnrNry w => .svstnr .nry w
  | .svstnrNra w => .svstnr .nra w
  | .tststTnoz => .tstst .tnoz
  | .tststTno => .tstst .tno
  | .tststTz => .tstst .tz
  | .tststTovr => .tstst .tovr
  | .tststTlow => .tstst .tlow
  | .tststTc => .tstst .tc
  | .tststTzc => .tstst .tzc
  | .tststTn => .tstst .tn
  | .tststTl => .tstst .tl
  | .tststTf1 => .tstst .tf1
  | .tststTf2 => .tstst .tf2
  | .tststTf3 => .tstst .tf3
  | .nop => .nop

/-- The instruction of format SOR with the given mnemonics and operands (R71). -/
noncomputable def sorInstr : SingleOp → SorForm → Width → Reg → Instr
  | .move, .sora, w, a => .sorMoveSora w a
  | .move, .sory, w, a => .sorMoveSory w a
  | .move, .sors, w, a => .sorMoveSors w a
  | .move, .soar, w, a => .sorMoveSoar w a
  | .move, .sodr, w, a => .sorMoveSodr w a
  | .move, .soir imm, w, a => .sorMoveSoir w a imm
  | .move, .sozr, w, a => .sorMoveSozr w a
  | .move, .sozer, w, a => .sorMoveSozer w a
  | .move, .soser, w, a => .sorMoveSoser w a
  | .move, .sorr, w, a => .sorMoveSorr w a
  | .comp, .sora, w, a => .sorCompSora w a
  | .comp, .sory, w, a => .sorCompSory w a
  | .comp, .sors, w, a => .sorCompSors w a
  | .comp, .soar, w, a => .sorCompSoar w a
  | .comp, .sodr, w, a => .sorCompSodr w a
  | .comp, .soir imm, w, a => .sorCompSoir w a imm
  | .comp, .sozr, w, a => .sorCompSozr w a
  | .comp, .sozer, w, a => .sorCompSozer w a
  | .comp, .soser, w, a => .sorCompSoser w a
  | .comp, .sorr, w, a => .sorCompSorr w a
  | .inc, .sora, w, a => .sorIncSora w a
  | .inc, .sory, w, a => .sorIncSory w a
  | .inc, .sors, w, a => .sorIncSors w a
  | .inc, .soar, w, a => .sorIncSoar w a
  | .inc, .sodr, w, a => .sorIncSodr w a
  | .inc, .soir imm, w, a => .sorIncSoir w a imm
  | .inc, .sozr, w, a => .sorIncSozr w a
  | .inc, .sozer, w, a => .sorIncSozer w a
  | .inc, .soser, w, a => .sorIncSoser w a
  | .inc, .sorr, w, a => .sorIncSorr w a
  | .neg, .sora, w, a => .sorNegSora w a
  | .neg, .sory, w, a => .sorNegSory w a
  | .neg, .sors, w, a => .sorNegSors w a
  | .neg, .soar, w, a => .sorNegSoar w a
  | .neg, .sodr, w, a => .sorNegSodr w a
  | .neg, .soir imm, w, a => .sorNegSoir w a imm
  | .neg, .sozr, w, a => .sorNegSozr w a
  | .neg, .sozer, w, a => .sorNegSozer w a
  | .neg, .soser, w, a => .sorNegSoser w a
  | .neg, .sorr, w, a => .sorNegSorr w a

/-- The instruction of format SONR with the given mnemonics and operands (R71). -/
noncomputable def sonrInstr : SingleOp → SonrSource → NrDest → Width → Instr
  | .move, .soa, .nry, w => .sonrMoveSoaNry w
  | .move, .soa, .nra, w => .sonrMoveSoaNra w
  | .move, .soa, .nrs, w => .sonrMoveSoaNrs w
  | .move, .soa, .nras, w => .sonrMoveSoaNras w
  | .move, .sod, .nry, w => .sonrMoveSodNry w
  | .move, .sod, .nra, w => .sonrMoveSodNra w
  | .move, .sod, .nrs, w => .sonrMoveSodNrs w
  | .move, .sod, .nras, w => .sonrMoveSodNras w
  | .move, .soi imm, .nry, w => .sonrMoveSoiNry w imm
  | .move, .soi imm, .nra, w => .sonrMoveSoiNra w imm
  | .move, .soi imm, .nrs, w => .sonrMoveSoiNrs w imm
  | .move, .soi imm, .nras, w => .sonrMoveSoiNras w imm
  | .move, .soz, .nry, w => .sonrMoveSozNry w
  | .move, .soz, .nra, w => .sonrMoveSozNra w
  | .move, .soz, .nrs, w => .sonrMoveSozNrs w
  | .move, .soz, .nras, w => .sonrMoveSozNras w
  | .move, .soze, .nry, w => .sonrMoveSozeNry w
  | .move, .soze, .nra, w => .sonrMoveSozeNra w
  | .move, .soze, .nrs, w => .sonrMoveSozeNrs w
  | .move, .soze, .nras, w => .sonrMoveSozeNras w
  | .move, .sose, .nry, w => .sonrMoveSoseNry w
  | .move, .sose, .nra, w => .sonrMoveSoseNra w
  | .move, .sose, .nrs, w => .sonrMoveSoseNrs w
  | .move, .sose, .nras, w => .sonrMoveSoseNras w
  | .comp, .soa, .nry, w => .sonrCompSoaNry w
  | .comp, .soa, .nra, w => .sonrCompSoaNra w
  | .comp, .soa, .nrs, w => .sonrCompSoaNrs w
  | .comp, .soa, .nras, w => .sonrCompSoaNras w
  | .comp, .sod, .nry, w => .sonrCompSodNry w
  | .comp, .sod, .nra, w => .sonrCompSodNra w
  | .comp, .sod, .nrs, w => .sonrCompSodNrs w
  | .comp, .sod, .nras, w => .sonrCompSodNras w
  | .comp, .soi imm, .nry, w => .sonrCompSoiNry w imm
  | .comp, .soi imm, .nra, w => .sonrCompSoiNra w imm
  | .comp, .soi imm, .nrs, w => .sonrCompSoiNrs w imm
  | .comp, .soi imm, .nras, w => .sonrCompSoiNras w imm
  | .comp, .soz, .nry, w => .sonrCompSozNry w
  | .comp, .soz, .nra, w => .sonrCompSozNra w
  | .comp, .soz, .nrs, w => .sonrCompSozNrs w
  | .comp, .soz, .nras, w => .sonrCompSozNras w
  | .comp, .soze, .nry, w => .sonrCompSozeNry w
  | .comp, .soze, .nra, w => .sonrCompSozeNra w
  | .comp, .soze, .nrs, w => .sonrCompSozeNrs w
  | .comp, .soze, .nras, w => .sonrCompSozeNras w
  | .comp, .sose, .nry, w => .sonrCompSoseNry w
  | .comp, .sose, .nra, w => .sonrCompSoseNra w
  | .comp, .sose, .nrs, w => .sonrCompSoseNrs w
  | .comp, .sose, .nras, w => .sonrCompSoseNras w
  | .inc, .soa, .nry, w => .sonrIncSoaNry w
  | .inc, .soa, .nra, w => .sonrIncSoaNra w
  | .inc, .soa, .nrs, w => .sonrIncSoaNrs w
  | .inc, .soa, .nras, w => .sonrIncSoaNras w
  | .inc, .sod, .nry, w => .sonrIncSodNry w
  | .inc, .sod, .nra, w => .sonrIncSodNra w
  | .inc, .sod, .nrs, w => .sonrIncSodNrs w
  | .inc, .sod, .nras, w => .sonrIncSodNras w
  | .inc, .soi imm, .nry, w => .sonrIncSoiNry w imm
  | .inc, .soi imm, .nra, w => .sonrIncSoiNra w imm
  | .inc, .soi imm, .nrs, w => .sonrIncSoiNrs w imm
  | .inc, .soi imm, .nras, w => .sonrIncSoiNras w imm
  | .inc, .soz, .nry, w => .sonrIncSozNry w
  | .inc, .soz, .nra, w => .sonrIncSozNra w
  | .inc, .soz, .nrs, w => .sonrIncSozNrs w
  | .inc, .soz, .nras, w => .sonrIncSozNras w
  | .inc, .soze, .nry, w => .sonrIncSozeNry w
  | .inc, .soze, .nra, w => .sonrIncSozeNra w
  | .inc, .soze, .nrs, w => .sonrIncSozeNrs w
  | .inc, .soze, .nras, w => .sonrIncSozeNras w
  | .inc, .sose, .nry, w => .sonrIncSoseNry w
  | .inc, .sose, .nra, w => .sonrIncSoseNra w
  | .inc, .sose, .nrs, w => .sonrIncSoseNrs w
  | .inc, .sose, .nras, w => .sonrIncSoseNras w
  | .neg, .soa, .nry, w => .sonrNegSoaNry w
  | .neg, .soa, .nra, w => .sonrNegSoaNra w
  | .neg, .soa, .nrs, w => .sonrNegSoaNrs w
  | .neg, .soa, .nras, w => .sonrNegSoaNras w
  | .neg, .sod, .nry, w => .sonrNegSodNry w
  | .neg, .sod, .nra, w => .sonrNegSodNra w
  | .neg, .sod, .nrs, w => .sonrNegSodNrs w
  | .neg, .sod, .nras, w => .sonrNegSodNras w
  | .neg, .soi imm, .nry, w => .sonrNegSoiNry w imm
  | .neg, .soi imm, .nra, w => .sonrNegSoiNra w imm
  | .neg, .soi imm, .nrs, w => .sonrNegSoiNrs w imm
  | .neg, .soi imm, .nras, w => .sonrNegSoiNras w imm
  | .neg, .soz, .nry, w => .sonrNegSozNry w
  | .neg, .soz, .nra, w => .sonrNegSozNra w
  | .neg, .soz, .nrs, w => .sonrNegSozNrs w
  | .neg, .soz, .nras, w => .sonrNegSozNras w
  | .neg, .soze, .nry, w => .sonrNegSozeNry w
  | .neg, .soze, .nra, w => .sonrNegSozeNra w
  | .neg, .soze, .nrs, w => .sonrNegSozeNrs w
  | .neg, .soze, .nras, w => .sonrNegSozeNras w
  | .neg, .sose, .nry, w => .sonrNegSoseNry w
  | .neg, .sose, .nra, w => .sonrNegSoseNra w
  | .neg, .sose, .nrs, w => .sonrNegSoseNrs w
  | .neg, .sose, .nras, w => .sonrNegSoseNras w

/-- The instruction of format TOR1 with the given mnemonics and operands (R71). -/
noncomputable def tor1Instr : Tor1Form → TwoOp → Width → Reg → Instr
  | .toraa, .subr, w, a => .tor1ToraaSubr w a
  | .toria imm, .subr, w, a => .tor1ToriaSubr w a imm
  | .todra, .subr, w, a => .tor1TodraSubr w a
  | .toray, .subr, w, a => .tor1ToraySubr w a
  | .toriy imm, .subr, w, a => .tor1ToriySubr w a imm
  | .todry, .subr, w, a => .tor1TodrySubr w a
  | .torar, .subr, w, a => .tor1TorarSubr w a
  | .torir imm, .subr, w, a => .tor1TorirSubr w a imm
  | .todrr, .subr, w, a => .tor1TodrrSubr w a
  | .toraa, .subrc, w, a => .tor1ToraaSubrc w a
  | .toria imm, .subrc, w, a => .tor1ToriaSubrc w a imm
  | .todra, .subrc, w, a => .tor1TodraSubrc w a
  | .toray, .subrc, w, a => .tor1ToraySubrc w a
  | .toriy imm, .subrc, w, a => .tor1ToriySubrc w a imm
  | .todry, .subrc, w, a => .tor1TodrySubrc w a
  | .torar, .subrc, w, a => .tor1TorarSubrc w a
  | .torir imm, .subrc, w, a => .tor1TorirSubrc w a imm
  | .todrr, .subrc, w, a => .tor1TodrrSubrc w a
  | .toraa, .subs, w, a => .tor1ToraaSubs w a
  | .toria imm, .subs, w, a => .tor1ToriaSubs w a imm
  | .todra, .subs, w, a => .tor1TodraSubs w a
  | .toray, .subs, w, a => .tor1ToraySubs w a
  | .toriy imm, .subs, w, a => .tor1ToriySubs w a imm
  | .todry, .subs, w, a => .tor1TodrySubs w a
  | .torar, .subs, w, a => .tor1TorarSubs w a
  | .torir imm, .subs, w, a => .tor1TorirSubs w a imm
  | .todrr, .subs, w, a => .tor1TodrrSubs w a
  | .toraa, .subsc, w, a => .tor1ToraaSubsc w a
  | .toria imm, .subsc, w, a => .tor1ToriaSubsc w a imm
  | .todra, .subsc, w, a => .tor1TodraSubsc w a
  | .toray, .subsc, w, a => .tor1ToraySubsc w a
  | .toriy imm, .subsc, w, a => .tor1ToriySubsc w a imm
  | .todry, .subsc, w, a => .tor1TodrySubsc w a
  | .torar, .subsc, w, a => .tor1TorarSubsc w a
  | .torir imm, .subsc, w, a => .tor1TorirSubsc w a imm
  | .todrr, .subsc, w, a => .tor1TodrrSubsc w a
  | .toraa, .add, w, a => .tor1ToraaAdd w a
  | .toria imm, .add, w, a => .tor1ToriaAdd w a imm
  | .todra, .add, w, a => .tor1TodraAdd w a
  | .toray, .add, w, a => .tor1TorayAdd w a
  | .toriy imm, .add, w, a => .tor1ToriyAdd w a imm
  | .todry, .add, w, a => .tor1TodryAdd w a
  | .torar, .add, w, a => .tor1TorarAdd w a
  | .torir imm, .add, w, a => .tor1TorirAdd w a imm
  | .todrr, .add, w, a => .tor1TodrrAdd w a
  | .toraa, .addc, w, a => .tor1ToraaAddc w a
  | .toria imm, .addc, w, a => .tor1ToriaAddc w a imm
  | .todra, .addc, w, a => .tor1TodraAddc w a
  | .toray, .addc, w, a => .tor1TorayAddc w a
  | .toriy imm, .addc, w, a => .tor1ToriyAddc w a imm
  | .todry, .addc, w, a => .tor1TodryAddc w a
  | .torar, .addc, w, a => .tor1TorarAddc w a
  | .torir imm, .addc, w, a => .tor1TorirAddc w a imm
  | .todrr, .addc, w, a => .tor1TodrrAddc w a
  | .toraa, .and, w, a => .tor1ToraaAnd w a
  | .toria imm, .and, w, a => .tor1ToriaAnd w a imm
  | .todra, .and, w, a => .tor1TodraAnd w a
  | .toray, .and, w, a => .tor1TorayAnd w a
  | .toriy imm, .and, w, a => .tor1ToriyAnd w a imm
  | .todry, .and, w, a => .tor1TodryAnd w a
  | .torar, .and, w, a => .tor1TorarAnd w a
  | .torir imm, .and, w, a => .tor1TorirAnd w a imm
  | .todrr, .and, w, a => .tor1TodrrAnd w a
  | .toraa, .nand, w, a => .tor1ToraaNand w a
  | .toria imm, .nand, w, a => .tor1ToriaNand w a imm
  | .todra, .nand, w, a => .tor1TodraNand w a
  | .toray, .nand, w, a => .tor1TorayNand w a
  | .toriy imm, .nand, w, a => .tor1ToriyNand w a imm
  | .todry, .nand, w, a => .tor1TodryNand w a
  | .torar, .nand, w, a => .tor1TorarNand w a
  | .torir imm, .nand, w, a => .tor1TorirNand w a imm
  | .todrr, .nand, w, a => .tor1TodrrNand w a
  | .toraa, .exor, w, a => .tor1ToraaExor w a
  | .toria imm, .exor, w, a => .tor1ToriaExor w a imm
  | .todra, .exor, w, a => .tor1TodraExor w a
  | .toray, .exor, w, a => .tor1TorayExor w a
  | .toriy imm, .exor, w, a => .tor1ToriyExor w a imm
  | .todry, .exor, w, a => .tor1TodryExor w a
  | .torar, .exor, w, a => .tor1TorarExor w a
  | .torir imm, .exor, w, a => .tor1TorirExor w a imm
  | .todrr, .exor, w, a => .tor1TodrrExor w a
  | .toraa, .nor, w, a => .tor1ToraaNor w a
  | .toria imm, .nor, w, a => .tor1ToriaNor w a imm
  | .todra, .nor, w, a => .tor1TodraNor w a
  | .toray, .nor, w, a => .tor1TorayNor w a
  | .toriy imm, .nor, w, a => .tor1ToriyNor w a imm
  | .todry, .nor, w, a => .tor1TodryNor w a
  | .torar, .nor, w, a => .tor1TorarNor w a
  | .torir imm, .nor, w, a => .tor1TorirNor w a imm
  | .todrr, .nor, w, a => .tor1TodrrNor w a
  | .toraa, .or, w, a => .tor1ToraaOr w a
  | .toria imm, .or, w, a => .tor1ToriaOr w a imm
  | .todra, .or, w, a => .tor1TodraOr w a
  | .toray, .or, w, a => .tor1TorayOr w a
  | .toriy imm, .or, w, a => .tor1ToriyOr w a imm
  | .todry, .or, w, a => .tor1TodryOr w a
  | .torar, .or, w, a => .tor1TorarOr w a
  | .torir imm, .or, w, a => .tor1TorirOr w a imm
  | .todrr, .or, w, a => .tor1TodrrOr w a
  | .toraa, .exnor, w, a => .tor1ToraaExnor w a
  | .toria imm, .exnor, w, a => .tor1ToriaExnor w a imm
  | .todra, .exnor, w, a => .tor1TodraExnor w a
  | .toray, .exnor, w, a => .tor1TorayExnor w a
  | .toriy imm, .exnor, w, a => .tor1ToriyExnor w a imm
  | .todry, .exnor, w, a => .tor1TodryExnor w a
  | .torar, .exnor, w, a => .tor1TorarExnor w a
  | .torir imm, .exnor, w, a => .tor1TorirExnor w a imm
  | .todrr, .exnor, w, a => .tor1TodrrExnor w a

/-- The instruction of format TOR2 with the given mnemonics and operands (R71). -/
noncomputable def tor2Instr : Tor2Form → TwoOp → Width → Reg → Instr
  | .todar, .subr, w, a => .tor2TodarSubr w a
  | .toair imm, .subr, w, a => .tor2ToairSubr w a imm
  | .todir imm, .subr, w, a => .tor2TodirSubr w a imm
  | .todar, .subrc, w, a => .tor2TodarSubrc w a
  | .toair imm, .subrc, w, a => .tor2ToairSubrc w a imm
  | .todir imm, .subrc, w, a => .tor2TodirSubrc w a imm
  | .todar, .subs, w, a => .tor2TodarSubs w a
  | .toair imm, .subs, w, a => .tor2ToairSubs w a imm
  | .todir imm, .subs, w, a => .tor2TodirSubs w a imm
  | .todar, .subsc, w, a => .tor2TodarSubsc w a
  | .toair imm, .subsc, w, a => .tor2ToairSubsc w a imm
  | .todir imm, .subsc, w, a => .tor2TodirSubsc w a imm
  | .todar, .add, w, a => .tor2TodarAdd w a
  | .toair imm, .add, w, a => .tor2ToairAdd w a imm
  | .todir imm, .add, w, a => .tor2TodirAdd w a imm
  | .todar, .addc, w, a => .tor2TodarAddc w a
  | .toair imm, .addc, w, a => .tor2ToairAddc w a imm
  | .todir imm, .addc, w, a => .tor2TodirAddc w a imm
  | .todar, .and, w, a => .tor2TodarAnd w a
  | .toair imm, .and, w, a => .tor2ToairAnd w a imm
  | .todir imm, .and, w, a => .tor2TodirAnd w a imm
  | .todar, .nand, w, a => .tor2TodarNand w a
  | .toair imm, .nand, w, a => .tor2ToairNand w a imm
  | .todir imm, .nand, w, a => .tor2TodirNand w a imm
  | .todar, .exor, w, a => .tor2TodarExor w a
  | .toair imm, .exor, w, a => .tor2ToairExor w a imm
  | .todir imm, .exor, w, a => .tor2TodirExor w a imm
  | .todar, .nor, w, a => .tor2TodarNor w a
  | .toair imm, .nor, w, a => .tor2ToairNor w a imm
  | .todir imm, .nor, w, a => .tor2TodirNor w a imm
  | .todar, .or, w, a => .tor2TodarOr w a
  | .toair imm, .or, w, a => .tor2ToairOr w a imm
  | .todir imm, .or, w, a => .tor2TodirOr w a imm
  | .todar, .exnor, w, a => .tor2TodarExnor w a
  | .toair imm, .exnor, w, a => .tor2ToairExnor w a imm
  | .todir imm, .exnor, w, a => .tor2TodirExnor w a imm

/-- The instruction of format TONR with the given mnemonics and operands (R71). -/
noncomputable def tonrInstr : TonrForm → TwoOp → NrDest → Width → Instr
  | .toda, .subr, .nry, w => .tonrTodaSubrNry w
  | .toda, .subr, .nra, w => .tonrTodaSubrNra w
  | .toda, .subr, .nrs, w => .tonrTodaSubrNrs w
  | .toda, .subr, .nras, w => .tonrTodaSubrNras w
  | .toai imm, .subr, .nry, w => .tonrToaiSubrNry w imm
  | .toai imm, .subr, .nra, w => .tonrToaiSubrNra w imm
  | .toai imm, .subr, .nrs, w => .tonrToaiSubrNrs w imm
  | .toai imm, .subr, .nras, w => .tonrToaiSubrNras w imm
  | .todi imm, .subr, .nry, w => .tonrTodiSubrNry w imm
  | .todi imm, .subr, .nra, w => .tonrTodiSubrNra w imm
  | .todi imm, .subr, .nrs, w => .tonrTodiSubrNrs w imm
  | .todi imm, .subr, .nras, w => .tonrTodiSubrNras w imm
  | .toda, .subrc, .nry, w => .tonrTodaSubrcNry w
  | .toda, .subrc, .nra, w => .tonrTodaSubrcNra w
  | .toda, .subrc, .nrs, w => .tonrTodaSubrcNrs w
  | .toda, .subrc, .nras, w => .tonrTodaSubrcNras w
  | .toai imm, .subrc, .nry, w => .tonrToaiSubrcNry w imm
  | .toai imm, .subrc, .nra, w => .tonrToaiSubrcNra w imm
  | .toai imm, .subrc, .nrs, w => .tonrToaiSubrcNrs w imm
  | .toai imm, .subrc, .nras, w => .tonrToaiSubrcNras w imm
  | .todi imm, .subrc, .nry, w => .tonrTodiSubrcNry w imm
  | .todi imm, .subrc, .nra, w => .tonrTodiSubrcNra w imm
  | .todi imm, .subrc, .nrs, w => .tonrTodiSubrcNrs w imm
  | .todi imm, .subrc, .nras, w => .tonrTodiSubrcNras w imm
  | .toda, .subs, .nry, w => .tonrTodaSubsNry w
  | .toda, .subs, .nra, w => .tonrTodaSubsNra w
  | .toda, .subs, .nrs, w => .tonrTodaSubsNrs w
  | .toda, .subs, .nras, w => .tonrTodaSubsNras w
  | .toai imm, .subs, .nry, w => .tonrToaiSubsNry w imm
  | .toai imm, .subs, .nra, w => .tonrToaiSubsNra w imm
  | .toai imm, .subs, .nrs, w => .tonrToaiSubsNrs w imm
  | .toai imm, .subs, .nras, w => .tonrToaiSubsNras w imm
  | .todi imm, .subs, .nry, w => .tonrTodiSubsNry w imm
  | .todi imm, .subs, .nra, w => .tonrTodiSubsNra w imm
  | .todi imm, .subs, .nrs, w => .tonrTodiSubsNrs w imm
  | .todi imm, .subs, .nras, w => .tonrTodiSubsNras w imm
  | .toda, .subsc, .nry, w => .tonrTodaSubscNry w
  | .toda, .subsc, .nra, w => .tonrTodaSubscNra w
  | .toda, .subsc, .nrs, w => .tonrTodaSubscNrs w
  | .toda, .subsc, .nras, w => .tonrTodaSubscNras w
  | .toai imm, .subsc, .nry, w => .tonrToaiSubscNry w imm
  | .toai imm, .subsc, .nra, w => .tonrToaiSubscNra w imm
  | .toai imm, .subsc, .nrs, w => .tonrToaiSubscNrs w imm
  | .toai imm, .subsc, .nras, w => .tonrToaiSubscNras w imm
  | .todi imm, .subsc, .nry, w => .tonrTodiSubscNry w imm
  | .todi imm, .subsc, .nra, w => .tonrTodiSubscNra w imm
  | .todi imm, .subsc, .nrs, w => .tonrTodiSubscNrs w imm
  | .todi imm, .subsc, .nras, w => .tonrTodiSubscNras w imm
  | .toda, .add, .nry, w => .tonrTodaAddNry w
  | .toda, .add, .nra, w => .tonrTodaAddNra w
  | .toda, .add, .nrs, w => .tonrTodaAddNrs w
  | .toda, .add, .nras, w => .tonrTodaAddNras w
  | .toai imm, .add, .nry, w => .tonrToaiAddNry w imm
  | .toai imm, .add, .nra, w => .tonrToaiAddNra w imm
  | .toai imm, .add, .nrs, w => .tonrToaiAddNrs w imm
  | .toai imm, .add, .nras, w => .tonrToaiAddNras w imm
  | .todi imm, .add, .nry, w => .tonrTodiAddNry w imm
  | .todi imm, .add, .nra, w => .tonrTodiAddNra w imm
  | .todi imm, .add, .nrs, w => .tonrTodiAddNrs w imm
  | .todi imm, .add, .nras, w => .tonrTodiAddNras w imm
  | .toda, .addc, .nry, w => .tonrTodaAddcNry w
  | .toda, .addc, .nra, w => .tonrTodaAddcNra w
  | .toda, .addc, .nrs, w => .tonrTodaAddcNrs w
  | .toda, .addc, .nras, w => .tonrTodaAddcNras w
  | .toai imm, .addc, .nry, w => .tonrToaiAddcNry w imm
  | .toai imm, .addc, .nra, w => .tonrToaiAddcNra w imm
  | .toai imm, .addc, .nrs, w => .tonrToaiAddcNrs w imm
  | .toai imm, .addc, .nras, w => .tonrToaiAddcNras w imm
  | .todi imm, .addc, .nry, w => .tonrTodiAddcNry w imm
  | .todi imm, .addc, .nra, w => .tonrTodiAddcNra w imm
  | .todi imm, .addc, .nrs, w => .tonrTodiAddcNrs w imm
  | .todi imm, .addc, .nras, w => .tonrTodiAddcNras w imm
  | .toda, .and, .nry, w => .tonrTodaAndNry w
  | .toda, .and, .nra, w => .tonrTodaAndNra w
  | .toda, .and, .nrs, w => .tonrTodaAndNrs w
  | .toda, .and, .nras, w => .tonrTodaAndNras w
  | .toai imm, .and, .nry, w => .tonrToaiAndNry w imm
  | .toai imm, .and, .nra, w => .tonrToaiAndNra w imm
  | .toai imm, .and, .nrs, w => .tonrToaiAndNrs w imm
  | .toai imm, .and, .nras, w => .tonrToaiAndNras w imm
  | .todi imm, .and, .nry, w => .tonrTodiAndNry w imm
  | .todi imm, .and, .nra, w => .tonrTodiAndNra w imm
  | .todi imm, .and, .nrs, w => .tonrTodiAndNrs w imm
  | .todi imm, .and, .nras, w => .tonrTodiAndNras w imm
  | .toda, .nand, .nry, w => .tonrTodaNandNry w
  | .toda, .nand, .nra, w => .tonrTodaNandNra w
  | .toda, .nand, .nrs, w => .tonrTodaNandNrs w
  | .toda, .nand, .nras, w => .tonrTodaNandNras w
  | .toai imm, .nand, .nry, w => .tonrToaiNandNry w imm
  | .toai imm, .nand, .nra, w => .tonrToaiNandNra w imm
  | .toai imm, .nand, .nrs, w => .tonrToaiNandNrs w imm
  | .toai imm, .nand, .nras, w => .tonrToaiNandNras w imm
  | .todi imm, .nand, .nry, w => .tonrTodiNandNry w imm
  | .todi imm, .nand, .nra, w => .tonrTodiNandNra w imm
  | .todi imm, .nand, .nrs, w => .tonrTodiNandNrs w imm
  | .todi imm, .nand, .nras, w => .tonrTodiNandNras w imm
  | .toda, .exor, .nry, w => .tonrTodaExorNry w
  | .toda, .exor, .nra, w => .tonrTodaExorNra w
  | .toda, .exor, .nrs, w => .tonrTodaExorNrs w
  | .toda, .exor, .nras, w => .tonrTodaExorNras w
  | .toai imm, .exor, .nry, w => .tonrToaiExorNry w imm
  | .toai imm, .exor, .nra, w => .tonrToaiExorNra w imm
  | .toai imm, .exor, .nrs, w => .tonrToaiExorNrs w imm
  | .toai imm, .exor, .nras, w => .tonrToaiExorNras w imm
  | .todi imm, .exor, .nry, w => .tonrTodiExorNry w imm
  | .todi imm, .exor, .nra, w => .tonrTodiExorNra w imm
  | .todi imm, .exor, .nrs, w => .tonrTodiExorNrs w imm
  | .todi imm, .exor, .nras, w => .tonrTodiExorNras w imm
  | .toda, .nor, .nry, w => .tonrTodaNorNry w
  | .toda, .nor, .nra, w => .tonrTodaNorNra w
  | .toda, .nor, .nrs, w => .tonrTodaNorNrs w
  | .toda, .nor, .nras, w => .tonrTodaNorNras w
  | .toai imm, .nor, .nry, w => .tonrToaiNorNry w imm
  | .toai imm, .nor, .nra, w => .tonrToaiNorNra w imm
  | .toai imm, .nor, .nrs, w => .tonrToaiNorNrs w imm
  | .toai imm, .nor, .nras, w => .tonrToaiNorNras w imm
  | .todi imm, .nor, .nry, w => .tonrTodiNorNry w imm
  | .todi imm, .nor, .nra, w => .tonrTodiNorNra w imm
  | .todi imm, .nor, .nrs, w => .tonrTodiNorNrs w imm
  | .todi imm, .nor, .nras, w => .tonrTodiNorNras w imm
  | .toda, .or, .nry, w => .tonrTodaOrNry w
  | .toda, .or, .nra, w => .tonrTodaOrNra w
  | .toda, .or, .nrs, w => .tonrTodaOrNrs w
  | .toda, .or, .nras, w => .tonrTodaOrNras w
  | .toai imm, .or, .nry, w => .tonrToaiOrNry w imm
  | .toai imm, .or, .nra, w => .tonrToaiOrNra w imm
  | .toai imm, .or, .nrs, w => .tonrToaiOrNrs w imm
  | .toai imm, .or, .nras, w => .tonrToaiOrNras w imm
  | .todi imm, .or, .nry, w => .tonrTodiOrNry w imm
  | .todi imm, .or, .nra, w => .tonrTodiOrNra w imm
  | .todi imm, .or, .nrs, w => .tonrTodiOrNrs w imm
  | .todi imm, .or, .nras, w => .tonrTodiOrNras w imm
  | .toda, .exnor, .nry, w => .tonrTodaExnorNry w
  | .toda, .exnor, .nra, w => .tonrTodaExnorNra w
  | .toda, .exnor, .nrs, w => .tonrTodaExnorNrs w
  | .toda, .exnor, .nras, w => .tonrTodaExnorNras w
  | .toai imm, .exnor, .nry, w => .tonrToaiExnorNry w imm
  | .toai imm, .exnor, .nra, w => .tonrToaiExnorNra w imm
  | .toai imm, .exnor, .nrs, w => .tonrToaiExnorNrs w imm
  | .toai imm, .exnor, .nras, w => .tonrToaiExnorNras w imm
  | .todi imm, .exnor, .nry, w => .tonrTodiExnorNry w imm
  | .todi imm, .exnor, .nra, w => .tonrTodiExnorNra w imm
  | .todi imm, .exnor, .nrs, w => .tonrTodiExnorNrs w imm
  | .todi imm, .exnor, .nras, w => .tonrTodiExnorNras w imm

/-- The instruction of format SHFTR with the given mnemonics and operands (R71). -/
noncomputable def shftrInstr : ShftrForm → ShiftOp → Width → Reg → Instr
  | .shrr, .shupz, w, a => .shftrShrrShupz w a
  | .shdr, .shupz, w, a => .shftrShdrShupz w a
  | .shrr, .shup1, w, a => .shftrShrrShup1 w a
  | .shdr, .shup1, w, a => .shftrShdrShup1 w a
  | .shrr, .shupl, w, a => .shftrShrrShupl w a
  | .shdr, .shupl, w, a => .shftrShdrShupl w a
  | .shrr, .shdnz, w, a => .shftrShrrShdnz w a
  | .shdr, .shdnz, w, a => .shftrShdrShdnz w a
  | .shrr, .shdn1, w, a => .shftrShrrShdn1 w a
  | .shdr, .shdn1, w, a => .shftrShdrShdn1 w a
  | .shrr, .shdnl, w, a => .shftrShrrShdnl w a
  | .shdr, .shdnl, w, a => .shftrShdrShdnl w a
  | .shrr, .shdnc, w, a => .shftrShrrShdnc w a
  | .shdr, .shdnc, w, a => .shftrShdrShdnc w a
  | .shrr, .shdnov, w, a => .shftrShrrShdnov w a
  | .shdr, .shdnov, w, a => .shftrShdrShdnov w a

/-- The instruction of format SHFTNR with the given mnemonics and operands (R71). -/
noncomputable def shftnrInstr : ShftnrSource → ShiftOp → NrShortDest → Width → Instr
  | .sha, .shupz, .nry, w => .shftnrShaShupzNry w
  | .sha, .shupz, .nra, w => .shftnrShaShupzNra w
  | .shd, .shupz, .nry, w => .shftnrShdShupzNry w
  | .shd, .shupz, .nra, w => .shftnrShdShupzNra w
  | .sha, .shup1, .nry, w => .shftnrShaShup1Nry w
  | .sha, .shup1, .nra, w => .shftnrShaShup1Nra w
  | .shd, .shup1, .nry, w => .shftnrShdShup1Nry w
  | .shd, .shup1, .nra, w => .shftnrShdShup1Nra w
  | .sha, .shupl, .nry, w => .shftnrShaShuplNry w
  | .sha, .shupl, .nra, w => .shftnrShaShuplNra w
  | .shd, .shupl, .nry, w => .shftnrShdShuplNry w
  | .shd, .shupl, .nra, w => .shftnrShdShuplNra w
  | .sha, .shdnz, .nry, w => .shftnrShaShdnzNry w
  | .sha, .shdnz, .nra, w => .shftnrShaShdnzNra w
  | .shd, .shdnz, .nry, w => .shftnrShdShdnzNry w
  | .shd, .shdnz, .nra, w => .shftnrShdShdnzNra w
  | .sha, .shdn1, .nry, w => .shftnrShaShdn1Nry w
  | .sha, .shdn1, .nra, w => .shftnrShaShdn1Nra w
  | .shd, .shdn1, .nry, w => .shftnrShdShdn1Nry w
  | .shd, .shdn1, .nra, w => .shftnrShdShdn1Nra w
  | .sha, .shdnl, .nry, w => .shftnrShaShdnlNry w
  | .sha, .shdnl, .nra, w => .shftnrShaShdnlNra w
  | .shd, .shdnl, .nry, w => .shftnrShdShdnlNry w
  | .shd, .shdnl, .nra, w => .shftnrShdShdnlNra w
  | .sha, .shdnc, .nry, w => .shftnrShaShdncNry w
  | .sha, .shdnc, .nra, w => .shftnrShaShdncNra w
  | .shd, .shdnc, .nry, w => .shftnrShdShdncNry w
  | .shd, .shdnc, .nra, w => .shftnrShdShdncNra w
  | .sha, .shdnov, .nry, w => .shftnrShaShdnovNry w
  | .sha, .shdnov, .nra, w => .shftnrShaShdnovNra w
  | .shd, .shdnov, .nry, w => .shftnrShdShdnovNry w
  | .shd, .shdnov, .nra, w => .shftnrShdShdnovNra w

/-- The instruction of format BOR1 with the given mnemonics and operands (R71). -/
noncomputable def bor1Instr : Bor1Op → Width → BitNo → Reg → Instr
  | .setnr, w, n, a => .bor1Setnr w n a
  | .rstnr, w, n, a => .bor1Rstnr w n a
  | .tstnr, w, n, a => .bor1Tstnr w n a

/-- The instruction of format BOR2 with the given mnemonics and operands (R71). -/
noncomputable def bor2Instr : Bor2Op → Width → BitNo → Reg → Instr
  | .ld2nr, w, n, a => .bor2Ld2nr w n a
  | .ldc2nr, w, n, a => .bor2Ldc2nr w n a
  | .a2nr, w, n, a => .bor2A2nr w n a
  | .s2nr, w, n, a => .bor2S2nr w n a

/-- The instruction of format BONR with the given mnemonics and operands (R71). -/
noncomputable def bonrInstr : BonrOp → Width → BitNo → Instr
  | .tstna, w, n => .bonrTstna w n
  | .rstna, w, n => .bonrRstna w n
  | .setna, w, n => .bonrSetna w n
  | .a2na, w, n => .bonrA2na w n
  | .s2na, w, n => .bonrS2na w n
  | .ld2na, w, n => .bonrLd2na w n
  | .ldc2na, w, n => .bonrLdc2na w n
  | .tstnd, w, n => .bonrTstnd w n
  | .rstnd, w, n => .bonrRstnd w n
  | .setnd, w, n => .bonrSetnd w n
  | .a2ndy, w, n => .bonrA2ndy w n
  | .s2ndy, w, n => .bonrS2ndy w n
  | .ld2ny, w, n => .bonrLd2ny w n
  | .ldc2ny, w, n => .bonrLdc2ny w n

/-- The instruction of format ROTR1 with the given mnemonics and operands (R71). -/
noncomputable def rotr1Instr : Rotr1Form → Width → BitNo → Reg → Instr
  | .rtra, w, n, a => .rotr1Rtra w n a
  | .rtry, w, n, a => .rotr1Rtry w n a
  | .rtrr, w, n, a => .rotr1Rtrr w n a

/-- The instruction of format ROTR2 with the given mnemonics and operands (R71). -/
noncomputable def rotr2Instr : Rotr2Form → Width → BitNo → Reg → Instr
  | .rtar, w, n, a => .rotr2Rtar w n a
  | .rtdr, w, n, a => .rotr2Rtdr w n a

/-- The instruction of format ROTNR with the given mnemonics and operands (R71). -/
noncomputable def rotnrInstr : RotnrForm → Width → BitNo → Instr
  | .rtdy, w, n => .rotnrRtdy w n
  | .rtda, w, n => .rotnrRtda w n
  | .rtay, w, n => .rotnrRtay w n
  | .rtaa, w, n => .rotnrRtaa w n

/-- The instruction of format ROTC with the given mnemonics and operands (R71). -/
noncomputable def rotcInstr : RotcForm → Width → BitNo → Reg → Instr
  | .cdai imm, w, n, a => .rotcCdai w n a imm
  | .cdri imm, w, n, a => .rotcCdri w n a imm
  | .cdra, w, n, a => .rotcCdra w n a
  | .crai imm, w, n, a => .rotcCrai w n a imm

/-- The instruction of format ROTM with the given mnemonics and operands (R71). -/
noncomputable def rotmInstr : RotmForm → Width → BitNo → Reg → Instr
  | .mdai imm, w, n, a => .rotmMdai w n a imm
  | .mdar, w, n, a => .rotmMdar w n a
  | .mdri imm, w, n, a => .rotmMdri w n a imm
  | .mdra, w, n, a => .rotmMdra w n a
  | .mari imm, w, n, a => .rotmMari w n a imm
  | .mrai imm, w, n, a => .rotmMrai w n a imm

/-- The instruction of format PRT1 with the given mnemonics and operands (R71). -/
noncomputable def prt1Instr : Prt1Dest → Prt1Source → Width → Reg → Instr
  | .pr1a, .prt1a, w, a => .prt1Pr1aPrt1a w a
  | .pr1a, .prt1d, w, a => .prt1Pr1aPrt1d w a
  | .pr1y, .prt1a, w, a => .prt1Pr1yPrt1a w a
  | .pr1y, .prt1d, w, a => .prt1Pr1yPrt1d w a
  | .pr1r, .prt1a, w, a => .prt1Pr1rPrt1a w a
  | .pr1r, .prt1d, w, a => .prt1Pr1rPrt1d w a

/-- The instruction of format PRT2 with the given mnemonics and operands (R71). -/
noncomputable def prt2Instr : PrtMask → Prt2Dest → Width → Reg → Instr
  | .pra, .pr2a, w, a => .prt2PraPr2a w a
  | .pra, .pr2y, w, a => .prt2PraPr2y w a
  | .prz, .pr2a, w, a => .prt2PrzPr2a w a
  | .prz, .pr2y, w, a => .prt2PrzPr2y w a
  | .pri imm, .pr2a, w, a => .prt2PriPr2a w a imm
  | .pri imm, .pr2y, w, a => .prt2PriPr2y w a imm

/-- The instruction of format PRT3 with the given mnemonics and operands (R71). -/
noncomputable def prt3Instr : PrtMask → Prt3Source → Width → Reg → Instr
  | .pra, .pr3r, w, a => .prt3PraPr3r w a
  | .pra, .pr3a, w, a => .prt3PraPr3a w a
  | .pra, .pr3d, w, a => .prt3PraPr3d w a
  | .prz, .pr3r, w, a => .prt3PrzPr3r w a
  | .prz, .pr3a, w, a => .prt3PrzPr3a w a
  | .prz, .pr3d, w, a => .prt3PrzPr3d w a
  | .pri imm, .pr3r, w, a => .prt3PriPr3r w a imm
  | .pri imm, .pr3a, w, a => .prt3PriPr3a w a imm
  | .pri imm, .pr3d, w, a => .prt3PriPr3d w a imm

/-- The instruction of format PRTNR with the given mnemonics and operands (R71). -/
noncomputable def prtnrInstr : PrtMask → PrtnrSource → NrShortDest → Width → Instr
  | .pra, .prta, .nry, w => .prtnrPraPrtaNry w
  | .pra, .prta, .nra, w => .prtnrPraPrtaNra w
  | .pra, .prtd, .nry, w => .prtnrPraPrtdNry w
  | .pra, .prtd, .nra, w => .prtnrPraPrtdNra w
  | .prz, .prta, .nry, w => .prtnrPrzPrtaNry w
  | .prz, .prta, .nra, w => .prtnrPrzPrtaNra w
  | .prz, .prtd, .nry, w => .prtnrPrzPrtdNry w
  | .prz, .prtd, .nra, w => .prtnrPrzPrtdNra w
  | .pri imm, .prta, .nry, w => .prtnrPriPrtaNry w imm
  | .pri imm, .prta, .nra, w => .prtnrPriPrtaNra w imm
  | .pri imm, .prtd, .nry, w => .prtnrPriPrtdNry w imm
  | .pri imm, .prtd, .nra, w => .prtnrPriPrtdNra w imm

/-- The instruction of format SETST with the given mnemonics and operands (R71). -/
noncomputable def setstInstr : SetOp → Instr
  | .sonccz => .setstSonccz
  | .sl => .setstSl
  | .sf1 => .setstSf1
  | .sf2 => .setstSf2
  | .sf3 => .setstSf3

/-- The instruction of format RSTST with the given mnemonics and operands (R71). -/
noncomputable def rststInstr : RstOp → Instr
  | .ronccz => .rststRonccz
  | .rl => .rststRl
  | .rf1 => .rststRf1
  | .rf2 => .rststRf2
  | .rf3 => .rststRf3

/-- The instruction of format SVSTNR with the given mnemonics and operands (R71). -/
noncomputable def svstnrInstr : NrShortDest → Width → Instr
  | .nry, w => .svstnrNry w
  | .nra, w => .svstnrNra w

/-- The instruction of format TSTST with the given mnemonics and operands (R71). -/
noncomputable def tststInstr : TestCond → Instr
  | .tnoz => .tststTnoz
  | .tno => .tststTno
  | .tz => .tststTz
  | .tovr => .tststTovr
  | .tlow => .tststTlow
  | .tc => .tststTc
  | .tzc => .tststTzc
  | .tn => .tststTn
  | .tl => .tststTl
  | .tf1 => .tststTf1
  | .tf2 => .tststTf2
  | .tf3 => .tststTf3

/-- The instruction a format with its fields stands for: the inverse of `Instr.format`. -/
noncomputable def Format.instr (f : Format) : Instr :=
  match f with
  | .sor op form w a => sorInstr op form w a
  | .sonr op src dst w => sonrInstr op src dst w
  | .tor1 form op w a => tor1Instr form op w a
  | .tor2 form op w a => tor2Instr form op w a
  | .tonr form op dst w => tonrInstr form op dst w
  | .shftr form op w a => shftrInstr form op w a
  | .shftnr src op dst w => shftnrInstr src op dst w
  | .bor1 op w n a => bor1Instr op w n a
  | .bor2 op w n a => bor2Instr op w n a
  | .bonr op w n => bonrInstr op w n
  | .rotr1 form w n a => rotr1Instr form w n a
  | .rotr2 form w n a => rotr2Instr form w n a
  | .rotnr form w n => rotnrInstr form w n
  | .rotc form w n a => rotcInstr form w n a
  | .rotm form w n a => rotmInstr form w n a
  | .prt1 dst src w a => prt1Instr dst src w a
  | .prt2 mask dst w a => prt2Instr mask dst w a
  | .prt3 mask src w a => prt3Instr mask src w a
  | .prtnr mask src dst w => prtnrInstr mask src dst w
  | .crcf a => .crcf a
  | .crcr a => .crcr a
  | .setst op => setstInstr op
  | .rstst op => rststInstr op
  | .svstr w a => .svstr w a
  | .svstnr dst w => svstnrInstr dst w
  | .tstst cond => tststInstr cond
  | .nop => .nop

/-! ## The immediate word -/

/-- The immediate word of the forms of R391. -/
def SorForm.immediate : SorForm → Option Word
  | .soir imm => some imm
  | .sora | .sory | .sors | .soar | .sodr | .sozr | .sozer | .soser | .sorr => none

/-- The immediate word of the forms of R391. -/
def SonrSource.immediate : SonrSource → Option Word
  | .soi imm => some imm
  | .soa | .sod | .soz | .soze | .sose => none

/-- The immediate word of the forms of R391. -/
def Tor1Form.immediate : Tor1Form → Option Word
  | .toria imm | .toriy imm | .torir imm => some imm
  | .toraa | .todra | .toray | .todry | .torar | .todrr => none

/-- The immediate word of the forms of R391. -/
def Tor2Form.immediate : Tor2Form → Option Word
  | .toair imm | .todir imm => some imm
  | .todar => none

/-- The immediate word of the forms of R391. -/
def TonrForm.immediate : TonrForm → Option Word
  | .toai imm | .todi imm => some imm
  | .toda => none

/-- The immediate word of the forms of R391. -/
def RotcForm.immediate : RotcForm → Option Word
  | .cdai imm | .cdri imm | .crai imm => some imm
  | .cdra => none

/-- The immediate word of the forms of R391. -/
def RotmForm.immediate : RotmForm → Option Word
  | .mdai imm | .mdri imm | .mari imm | .mrai imm => some imm
  | .mdar | .mdra => none

/-- The immediate word of the forms of R391. -/
def PrtMask.immediate : PrtMask → Option Word
  | .pri imm => some imm
  | .pra | .prz => none

/-- The immediate word that follows the instruction word, for the forms of R391. -/
def Format.immediate (f : Format) : Option Word :=
  match f with
  | .sor _ form _ _ => form.immediate
  | .sonr _ src _ _ => src.immediate
  | .tor1 form _ _ _ => form.immediate
  | .tor2 form _ _ _ => form.immediate
  | .tonr form _ _ _ => form.immediate
  | .rotc form _ _ _ => form.immediate
  | .rotm form _ _ _ => form.immediate
  | .prt2 mask _ _ _ => mask.immediate
  | .prt3 mask _ _ _ => mask.immediate
  | .prtnr mask _ _ _ => mask.immediate
  | .shftr _ _ _ _ | .shftnr _ _ _ _ | .bor1 _ _ _ _ | .bor2 _ _ _ _ | .bonr _ _ _
  | .rotr1 _ _ _ _ | .rotr2 _ _ _ _ | .rotnr _ _ _ | .prt1 _ _ _ _ | .crcf _ | .crcr _
  | .setst _ | .rstst _ | .svstr _ _ | .svstnr _ _ | .tstst _ | .nop => none

/-! ## Fields of the instruction word -/

/-- The five fields of an instruction word (R70). -/
structure Fields where
  w : Width
  q : BitVec 2
  f1 : BitVec 4
  f2 : BitVec 4
  f3 : BitVec 5
  deriving DecidableEq, Repr

/-- I[15]: 1 for a word, 0 for a byte (R7). -/
def Width.bit : Width → BitVec 1
  | .byte => 0#1
  | .word => 1#1

/-- The width that I[15] selects (R7). -/
def Width.ofBit (b : BitVec 1) : Width := if b = 1#1 then .word else .byte

/-- The fields of an instruction word, at the bits of R70. -/
def fieldsOf (i : Word) : Fields where
  w := Width.ofBit (i.extractLsb' 15 1)
  q := i.extractLsb' 13 2
  f1 := i.extractLsb' 9 4
  f2 := i.extractLsb' 5 4
  f3 := i.extractLsb' 0 5

/-- The instruction word with the given fields (R70). -/
def Fields.assemble (f : Fields) : Word := f.w.bit ++ f.q ++ f.f1 ++ f.f2 ++ f.f3

/-! ## Code tables, decoding direction -/

/-- R81. -/
def SingleOp.ofCode : BitVec 4 → Option SingleOp
  | 0b1100#4 => some .move
  | 0b1101#4 => some .comp
  | 0b1110#4 => some .inc
  | 0b1111#4 => some .neg
  | _ => none

/-- R82. -/
def SorForm.ofCode (imm : Word) : BitVec 4 → Option SorForm
  | 0b0000#4 => some .sora
  | 0b0010#4 => some .sory
  | 0b0011#4 => some .sors
  | 0b0100#4 => some .soar
  | 0b0110#4 => some .sodr
  | 0b0111#4 => some (.soir imm)
  | 0b1000#4 => some .sozr
  | 0b1001#4 => some .sozer
  | 0b1010#4 => some .soser
  | 0b1011#4 => some .sorr
  | _ => none

/-- R83. -/
def SonrSource.ofCode (imm : Word) : BitVec 4 → Option SonrSource
  | 0b0100#4 => some .soa
  | 0b0110#4 => some .sod
  | 0b0111#4 => some (.soi imm)
  | 0b1000#4 => some .soz
  | 0b1001#4 => some .soze
  | 0b1010#4 => some .sose
  | _ => none

/-- R84. -/
def NrDest.ofCode : BitVec 5 → Option NrDest
  | 0b00000#5 => some .nry
  | 0b00001#5 => some .nra
  | 0b00100#5 => some .nrs
  | 0b00101#5 => some .nras
  | _ => none

/-- R84, for SHFTNR, PRTNR and SVSTNR. -/
def NrShortDest.ofCode : BitVec 5 → Option NrShortDest
  | 0b00000#5 => some .nry
  | 0b00001#5 => some .nra
  | _ => none

/-- R85. -/
def TwoOp.ofCode : BitVec 4 → Option TwoOp
  | 0b0000#4 => some .subr
  | 0b0001#4 => some .subrc
  | 0b0010#4 => some .subs
  | 0b0011#4 => some .subsc
  | 0b0100#4 => some .add
  | 0b0101#4 => some .addc
  | 0b0110#4 => some .and
  | 0b0111#4 => some .nand
  | 0b1000#4 => some .exor
  | 0b1001#4 => some .nor
  | 0b1010#4 => some .or
  | 0b1011#4 => some .exnor
  | _ => none

/-- R86. -/
def Tor1Form.ofCode (imm : Word) : BitVec 4 → Option Tor1Form
  | 0b0000#4 => some .toraa
  | 0b0010#4 => some (.toria imm)
  | 0b0011#4 => some .todra
  | 0b1000#4 => some .toray
  | 0b1010#4 => some (.toriy imm)
  | 0b1011#4 => some .todry
  | 0b1100#4 => some .torar
  | 0b1110#4 => some (.torir imm)
  | 0b1111#4 => some .todrr
  | _ => none

/-- R87. -/
def Tor2Form.ofCode (imm : Word) : BitVec 4 → Option Tor2Form
  | 0b0001#4 => some .todar
  | 0b0010#4 => some (.toair imm)
  | 0b0101#4 => some (.todir imm)
  | _ => none

/-- R88. -/
def TonrForm.ofCode (imm : Word) : BitVec 4 → Option TonrForm
  | 0b0001#4 => some .toda
  | 0b0010#4 => some (.toai imm)
  | 0b0101#4 => some (.todi imm)
  | _ => none

/-- R89. -/
def ShiftOp.ofCode : BitVec 4 → Option ShiftOp
  | 0b0000#4 => some .shupz
  | 0b0001#4 => some .shup1
  | 0b0010#4 => some .shupl
  | 0b0100#4 => some .shdnz
  | 0b0101#4 => some .shdn1
  | 0b0110#4 => some .shdnl
  | 0b0111#4 => some .shdnc
  | 0b1000#4 => some .shdnov
  | _ => none

/-- R91. -/
def Bor1Op.ofCode : BitVec 4 → Option Bor1Op
  | 0b1101#4 => some .setnr
  | 0b1110#4 => some .rstnr
  | 0b1111#4 => some .tstnr
  | _ => none

/-- R92. -/
def Bor2Op.ofCode : BitVec 4 → Option Bor2Op
  | 0b1100#4 => some .ld2nr
  | 0b1101#4 => some .ldc2nr
  | 0b1110#4 => some .a2nr
  | 0b1111#4 => some .s2nr
  | _ => none

/-- R93. -/
def BonrOp.ofCode : BitVec 5 → Option BonrOp
  | 0b00000#5 => some .tstna
  | 0b00001#5 => some .rstna
  | 0b00010#5 => some .setna
  | 0b00100#5 => some .a2na
  | 0b00101#5 => some .s2na
  | 0b00110#5 => some .ld2na
  | 0b00111#5 => some .ldc2na
  | 0b10000#5 => some .tstnd
  | 0b10001#5 => some .rstnd
  | 0b10010#5 => some .setnd
  | 0b10100#5 => some .a2ndy
  | 0b10101#5 => some .s2ndy
  | 0b10110#5 => some .ld2ny
  | 0b10111#5 => some .ldc2ny
  | _ => none

/-- R94. -/
def Rotr1Form.ofCode : BitVec 4 → Option Rotr1Form
  | 0b1100#4 => some .rtra
  | 0b1110#4 => some .rtry
  | 0b1111#4 => some .rtrr
  | _ => none

/-- R95. -/
def Rotr2Form.ofCode : BitVec 4 → Option Rotr2Form
  | 0b0000#4 => some .rtar
  | 0b0001#4 => some .rtdr
  | _ => none

/-- R96. -/
def RotnrForm.ofCode : BitVec 5 → Option RotnrForm
  | 0b11000#5 => some .rtdy
  | 0b11001#5 => some .rtda
  | 0b11100#5 => some .rtay
  | 0b11101#5 => some .rtaa
  | _ => none

/-- R97. -/
def RotcForm.ofCode (imm : Word) : BitVec 4 → Option RotcForm
  | 0b0010#4 => some (.cdai imm)
  | 0b0011#4 => some (.cdri imm)
  | 0b0100#4 => some .cdra
  | 0b0101#4 => some (.crai imm)
  | _ => none

/-- R98. -/
def RotmForm.ofCode (imm : Word) : BitVec 4 → Option RotmForm
  | 0b0111#4 => some (.mdai imm)
  | 0b1000#4 => some .mdar
  | 0b1001#4 => some (.mdri imm)
  | 0b1010#4 => some .mdra
  | 0b1100#4 => some (.mari imm)
  | 0b1110#4 => some (.mrai imm)
  | _ => none

/-- R99, destination. -/
def Prt1Dest.ofCode : BitVec 4 → Option Prt1Dest
  | 0b1000#4 => some .pr1a
  | 0b1010#4 => some .pr1y
  | 0b1011#4 => some .pr1r
  | _ => none

/-- R99, source R. -/
def Prt1Source.ofCode : BitVec 4 → Option Prt1Source
  | 0b0111#4 => some .prt1a
  | 0b1001#4 => some .prt1d
  | _ => none

/-- R100, mask. -/
def PrtMask.ofCode (imm : Word) : BitVec 4 → Option PrtMask
  | 0b1000#4 => some .pra
  | 0b1010#4 => some .prz
  | 0b1011#4 => some (.pri imm)
  | _ => none

/-- R100, destination of PRT2. -/
def Prt2Dest.ofCode : BitVec 4 → Option Prt2Dest
  | 0b0000#4 => some .pr2a
  | 0b0010#4 => some .pr2y
  | _ => none

/-- R101. -/
def Prt3Source.ofCode : BitVec 4 → Option Prt3Source
  | 0b0011#4 => some .pr3r
  | 0b0100#4 => some .pr3a
  | 0b0110#4 => some .pr3d
  | _ => none

/-- R102. -/
def PrtnrSource.ofCode : BitVec 4 → Option PrtnrSource
  | 0b0100#4 => some .prta
  | 0b0110#4 => some .prtd
  | _ => none

/-- R104, SETST. -/
def SetOp.ofCode : BitVec 5 → Option SetOp
  | 0b00011#5 => some .sonccz
  | 0b00101#5 => some .sl
  | 0b00110#5 => some .sf1
  | 0b01001#5 => some .sf2
  | 0b01010#5 => some .sf3
  | _ => none

/-- R104, RSTST. -/
def RstOp.ofCode : BitVec 5 → Option RstOp
  | 0b00011#5 => some .ronccz
  | 0b00101#5 => some .rl
  | 0b00110#5 => some .rf1
  | 0b01001#5 => some .rf2
  | 0b01010#5 => some .rf3
  | _ => none

/-- R106. -/
def TestCond.ofCode : BitVec 5 → Option TestCond
  | 0b00000#5 => some .tnoz
  | 0b00010#5 => some .tno
  | 0b00100#5 => some .tz
  | 0b00110#5 => some .tovr
  | 0b01000#5 => some .tlow
  | 0b01010#5 => some .tc
  | 0b01100#5 => some .tzc
  | 0b01110#5 => some .tn
  | 0b10000#5 => some .tl
  | 0b10010#5 => some .tf1
  | 0b10100#5 => some .tf2
  | 0b10110#5 => some .tf3
  | _ => none

/-! ## The decoder -/

/-- Quadrant 00 (R108): TOR1, else ROTR1. -/
def decodeQuadrant00 (imm : Word) (i : Fields) : Option Format :=
  match TwoOp.ofCode i.f2 with
  | some op => (Tor1Form.ofCode imm i.f1).map fun form => .tor1 form op i.w i.f3
  | none => (Rotr1Form.ofCode i.f2).map fun form => .rotr1 form i.w i.f1 i.f3

/-- Quadrant 01 (R109): ROTR2, ROTC or ROTM, by F2. -/
def decodeQuadrant01 (imm : Word) (i : Fields) : Option Format :=
  match Rotr2Form.ofCode i.f2 with
  | some form => some (.rotr2 form i.w i.f1 i.f3)
  | none =>
    match RotcForm.ofCode imm i.f2 with
    | some form => some (.rotc form i.w i.f1 i.f3)
    | none => (RotmForm.ofCode imm i.f2).map fun form => .rotm form i.w i.f1 i.f3

/-- Quadrant 10, F1 = 0110 (R110): SHFTR SHRR, CRCF or CRCR. -/
def decodeShrr (i : Fields) : Option Format :=
  match i.w, i.f2 with
  | .word, 0b0011#4 => some (.crcf i.f3)
  | .word, 0b1001#4 => some (.crcr i.f3)
  | w, f2 => (ShiftOp.ofCode f2).map fun op => .shftr .shrr op w i.f3

/-- Quadrant 10, F1 = 0111 (R110): SHFTR SHDR or SVSTR. -/
def decodeShdr (i : Fields) : Option Format :=
  match i.f2 with
  | 0b1010#4 => some (.svstr i.w i.f3)
  | f2 => (ShiftOp.ofCode f2).map fun op => .shftr .shdr op i.w i.f3

/-- Quadrant 10, prioritize (R110): PRT1, PRT2 or PRT3, by F2. -/
def decodePrioritize (imm : Word) (i : Fields) : Option Format :=
  match Prt1Source.ofCode i.f2 with
  | some src => (Prt1Dest.ofCode i.f1).map fun dst => .prt1 dst src i.w i.f3
  | none =>
    match PrtMask.ofCode imm i.f1 with
    | none => none
    | some mask =>
      match Prt2Dest.ofCode i.f2 with
      | some dst => some (.prt2 mask dst i.w i.f3)
      | none => (Prt3Source.ofCode i.f2).map fun src => .prt3 mask src i.w i.f3

/-- Quadrant 10, F1 = 1100 to 1111 (R110): SOR. -/
def decodeSor (imm : Word) (i : Fields) : Option Format :=
  match SingleOp.ofCode i.f1 with
  | some op => (SorForm.ofCode imm i.f2).map fun form => .sor op form i.w i.f3
  | none => none

/-- Quadrant 10 (R110). -/
def decodeQuadrant10 (imm : Word) (i : Fields) : Option Format :=
  match Bor2Op.ofCode i.f2 with
  | some op => some (.bor2 op i.w i.f1 i.f3)
  | none =>
    match Tor2Form.ofCode imm i.f1 with
    | some form => (TwoOp.ofCode i.f2).map fun op => .tor2 form op i.w i.f3
    | none =>
      match i.f1 with
      | 0b0110#4 => decodeShrr i
      | 0b0111#4 => decodeShdr i
      | 0b1000#4 | 0b1010#4 | 0b1011#4 => decodePrioritize imm i
      | _ => decodeSor imm i

/-- Quadrant 11, F2 = 1100 (R111): BONR, else ROTNR, by F3. -/
def decodeBonr (i : Fields) : Option Format :=
  match BonrOp.ofCode i.f3 with
  | some op => some (.bonr op i.w i.f1)
  | none => (RotnrForm.ofCode i.f3).map fun form => .rotnr form i.w i.f1

/-- Quadrant 11, shift without register file (R111): SHFTNR. -/
def decodeShftnr (src : ShftnrSource) (i : Fields) : Option Format :=
  match ShiftOp.ofCode i.f2 with
  | some op => (NrShortDest.ofCode i.f3).map fun dst => .shftnr src op dst i.w
  | none => none

/-- Quadrant 11, F2 = 1010 with a fixed F1 (R111): NOP, TSTST, RSTST, SETST, which need W = 0 (R75),
and SVSTNR. -/
def decodeStatus (i : Fields) : Option Format :=
  match i.f1, i.w with
  | 0b0111#4, w => (NrShortDest.ofCode i.f3).map fun dst => .svstnr dst w
  | 0b1000#4, .byte => if i.f3 = 0b00000#5 then some .nop else none
  | 0b1001#4, .byte => (TestCond.ofCode i.f3).map .tstst
  | 0b1010#4, .byte => (RstOp.ofCode i.f3).map .rstst
  | 0b1011#4, .byte => (SetOp.ofCode i.f3).map .setst
  | _, _ => none

/-- Quadrant 11, prioritize (R111): PRTNR. -/
def decodePrtnr (imm : Word) (i : Fields) : Option Format :=
  match PrtMask.ofCode imm i.f1, PrtnrSource.ofCode i.f2 with
  | some mask, some src => (NrShortDest.ofCode i.f3).map fun dst => .prtnr mask src dst i.w
  | _, _ => none

/-- Quadrant 11, F1 = 1100 to 1111 (R111): SONR. -/
def decodeSonr (imm : Word) (i : Fields) : Option Format :=
  match SingleOp.ofCode i.f1, SonrSource.ofCode imm i.f2 with
  | some op, some src => (NrDest.ofCode i.f3).map fun dst => .sonr op src dst i.w
  | _, _ => none

/-- Quadrant 11, formats selected by F1 (R111). -/
def decodeByF1 (imm : Word) (i : Fields) : Option Format :=
  match TonrForm.ofCode imm i.f1 with
  | some form =>
    match TwoOp.ofCode i.f2 with
    | some op => (NrDest.ofCode i.f3).map fun dst => .tonr form op dst i.w
    | none => none
  | none =>
    match i.f1, i.f2 with
    | 0b0110#4, _ => decodeShftnr .sha i
    | 0b0111#4, 0b1010#4 | 0b1000#4, 0b1010#4 | 0b1001#4, 0b1010#4 | 0b1010#4, 0b1010#4
    | 0b1011#4, 0b1010#4 => decodeStatus i
    | 0b0111#4, _ => decodeShftnr .shd i
    | 0b1000#4, _ | 0b1010#4, _ | 0b1011#4, _ => decodePrtnr imm i
    | _, _ => decodeSonr imm i

/-- Quadrant 11 (R111). -/
def decodeQuadrant11 (imm : Word) (i : Fields) : Option Format :=
  match Bor1Op.ofCode i.f2 with
  | some op => some (.bor1 op i.w i.f1 i.f3)
  | none =>
    match i.f2 with
    | 0b1100#4 => decodeBonr i
    | _ => decodeByF1 imm i

/-- The format and fields of an instruction word whose next word is `imm`, or nothing when the word
matches no row of the opcode table (R78, R108 to R111). -/
def formatOf (word imm : Word) : Option Format :=
  let i := fieldsOf word
  match i.q with
  | 0b00#2 => decodeQuadrant00 imm i
  | 0b01#2 => decodeQuadrant01 imm i
  | 0b10#2 => decodeQuadrant10 imm i
  | _ => decodeQuadrant11 imm i

/-- What reading an instruction from a list of words gives. -/
inductive DecodeResult where
  /-- An instruction and the words after it. -/
  | ok (i : Instr) (rest : List Word)
  /-- The first word matches no row of the opcode table (R78). -/
  | undecodable (word : Word)
  /-- The form takes I and no word follows (R392). -/
  | immediateMissing
  /-- There is no word to read (R30). -/
  | noWord
  deriving DecidableEq, Repr

/-- Reads one instruction from the front of a list of words, with `formatAt` telling the format of a
word and the word after it. The word after an instruction word is taken as its immediate operand exactly
when its form names I (R76, R392). -/
noncomputable def readInstr (formatAt : Word → Word → Option Format) : List Word → DecodeResult
  | [] => .noWord
  | word :: rest =>
    match formatAt word (rest.headD 0) with
    | none => .undecodable word
    | some f =>
      match f.immediate, rest with
      | none, _ => .ok f.instr rest
      | some _, [] => .immediateMissing
      | some _, _ :: rest' => .ok f.instr rest'

/-- The decoder, with the default codes (R108 to R111). -/
noncomputable def decode : List Word → DecodeResult := readInstr formatOf

/-- The instruction of an opcode-table word of `nbits` bits, with zeros above them. -/
noncomputable def decodeTableWord (nbits w : Nat) : Option Instr :=
  match decode [BitVec.ofNat 16 (w % 2 ^ nbits), BitVec.ofNat 16 (w % 2 ^ nbits / 2 ^ 16)] with
  | .ok i _ => some i
  | .undecodable _ | .immediateMissing | .noWord => none

/-! ## Code tables, encoding direction -/

/-- R81. -/
def SingleOp.code : SingleOp → BitVec 4
  | .move => 0b1100#4
  | .comp => 0b1101#4
  | .inc => 0b1110#4
  | .neg => 0b1111#4

/-- R82. -/
def SorForm.code : SorForm → BitVec 4
  | .sora => 0b0000#4
  | .sory => 0b0010#4
  | .sors => 0b0011#4
  | .soar => 0b0100#4
  | .sodr => 0b0110#4
  | .soir _ => 0b0111#4
  | .sozr => 0b1000#4
  | .sozer => 0b1001#4
  | .soser => 0b1010#4
  | .sorr => 0b1011#4

/-- R83. -/
def SonrSource.code : SonrSource → BitVec 4
  | .soa => 0b0100#4
  | .sod => 0b0110#4
  | .soi _ => 0b0111#4
  | .soz => 0b1000#4
  | .soze => 0b1001#4
  | .sose => 0b1010#4

/-- R84. -/
def NrDest.code : NrDest → BitVec 5
  | .nry => 0b00000#5
  | .nra => 0b00001#5
  | .nrs => 0b00100#5
  | .nras => 0b00101#5

/-- R84, for SHFTNR, PRTNR and SVSTNR. -/
def NrShortDest.code : NrShortDest → BitVec 5
  | .nry => 0b00000#5
  | .nra => 0b00001#5

/-- R85. -/
def TwoOp.code : TwoOp → BitVec 4
  | .subr => 0b0000#4
  | .subrc => 0b0001#4
  | .subs => 0b0010#4
  | .subsc => 0b0011#4
  | .add => 0b0100#4
  | .addc => 0b0101#4
  | .and => 0b0110#4
  | .nand => 0b0111#4
  | .exor => 0b1000#4
  | .nor => 0b1001#4
  | .or => 0b1010#4
  | .exnor => 0b1011#4

/-- R86. -/
def Tor1Form.code : Tor1Form → BitVec 4
  | .toraa => 0b0000#4
  | .toria _ => 0b0010#4
  | .todra => 0b0011#4
  | .toray => 0b1000#4
  | .toriy _ => 0b1010#4
  | .todry => 0b1011#4
  | .torar => 0b1100#4
  | .torir _ => 0b1110#4
  | .todrr => 0b1111#4

/-- R87. -/
def Tor2Form.code : Tor2Form → BitVec 4
  | .todar => 0b0001#4
  | .toair _ => 0b0010#4
  | .todir _ => 0b0101#4

/-- R88. -/
def TonrForm.code : TonrForm → BitVec 4
  | .toda => 0b0001#4
  | .toai _ => 0b0010#4
  | .todi _ => 0b0101#4

/-- R89. -/
def ShiftOp.code : ShiftOp → BitVec 4
  | .shupz => 0b0000#4
  | .shup1 => 0b0001#4
  | .shupl => 0b0010#4
  | .shdnz => 0b0100#4
  | .shdn1 => 0b0101#4
  | .shdnl => 0b0110#4
  | .shdnc => 0b0111#4
  | .shdnov => 0b1000#4

/-- R90. -/
def ShftrForm.code : ShftrForm → BitVec 4
  | .shrr => 0b0110#4
  | .shdr => 0b0111#4

/-- R90. -/
def ShftnrSource.code : ShftnrSource → BitVec 4
  | .sha => 0b0110#4
  | .shd => 0b0111#4

/-- R91. -/
def Bor1Op.code : Bor1Op → BitVec 4
  | .setnr => 0b1101#4
  | .rstnr => 0b1110#4
  | .tstnr => 0b1111#4

/-- R92. -/
def Bor2Op.code : Bor2Op → BitVec 4
  | .ld2nr => 0b1100#4
  | .ldc2nr => 0b1101#4
  | .a2nr => 0b1110#4
  | .s2nr => 0b1111#4

/-- R93. -/
def BonrOp.code : BonrOp → BitVec 5
  | .tstna => 0b00000#5
  | .rstna => 0b00001#5
  | .setna => 0b00010#5
  | .a2na => 0b00100#5
  | .s2na => 0b00101#5
  | .ld2na => 0b00110#5
  | .ldc2na => 0b00111#5
  | .tstnd => 0b10000#5
  | .rstnd => 0b10001#5
  | .setnd => 0b10010#5
  | .a2ndy => 0b10100#5
  | .s2ndy => 0b10101#5
  | .ld2ny => 0b10110#5
  | .ldc2ny => 0b10111#5

/-- R94. -/
def Rotr1Form.code : Rotr1Form → BitVec 4
  | .rtra => 0b1100#4
  | .rtry => 0b1110#4
  | .rtrr => 0b1111#4

/-- R95. -/
def Rotr2Form.code : Rotr2Form → BitVec 4
  | .rtar => 0b0000#4
  | .rtdr => 0b0001#4

/-- R96. -/
def RotnrForm.code : RotnrForm → BitVec 5
  | .rtdy => 0b11000#5
  | .rtda => 0b11001#5
  | .rtay => 0b11100#5
  | .rtaa => 0b11101#5

/-- R97. -/
def RotcForm.code : RotcForm → BitVec 4
  | .cdai _ => 0b0010#4
  | .cdri _ => 0b0011#4
  | .cdra => 0b0100#4
  | .crai _ => 0b0101#4

/-- R98. -/
def RotmForm.code : RotmForm → BitVec 4
  | .mdai _ => 0b0111#4
  | .mdar => 0b1000#4
  | .mdri _ => 0b1001#4
  | .mdra => 0b1010#4
  | .mari _ => 0b1100#4
  | .mrai _ => 0b1110#4

/-- R99, destination. -/
def Prt1Dest.code : Prt1Dest → BitVec 4
  | .pr1a => 0b1000#4
  | .pr1y => 0b1010#4
  | .pr1r => 0b1011#4

/-- R99, source R. -/
def Prt1Source.code : Prt1Source → BitVec 4
  | .prt1a => 0b0111#4
  | .prt1d => 0b1001#4

/-- R100, mask. -/
def PrtMask.code : PrtMask → BitVec 4
  | .pra => 0b1000#4
  | .prz => 0b1010#4
  | .pri _ => 0b1011#4

/-- R100, destination of PRT2. -/
def Prt2Dest.code : Prt2Dest → BitVec 4
  | .pr2a => 0b0000#4
  | .pr2y => 0b0010#4

/-- R101. -/
def Prt3Source.code : Prt3Source → BitVec 4
  | .pr3r => 0b0011#4
  | .pr3a => 0b0100#4
  | .pr3d => 0b0110#4

/-- R102. -/
def PrtnrSource.code : PrtnrSource → BitVec 4
  | .prta => 0b0100#4
  | .prtd => 0b0110#4

/-- R104, SETST. -/
def SetOp.code : SetOp → BitVec 5
  | .sonccz => 0b00011#5
  | .sl => 0b00101#5
  | .sf1 => 0b00110#5
  | .sf2 => 0b01001#5
  | .sf3 => 0b01010#5

/-- R104, RSTST. -/
def RstOp.code : RstOp → BitVec 5
  | .ronccz => 0b00011#5
  | .rl => 0b00101#5
  | .rf1 => 0b00110#5
  | .rf2 => 0b01001#5
  | .rf3 => 0b01010#5

/-- R106. -/
def TestCond.code : TestCond → BitVec 5
  | .tnoz => 0b00000#5
  | .tno => 0b00010#5
  | .tz => 0b00100#5
  | .tovr => 0b00110#5
  | .tlow => 0b01000#5
  | .tc => 0b01010#5
  | .tzc => 0b01100#5
  | .tn => 0b01110#5
  | .tl => 0b10000#5
  | .tf1 => 0b10010#5
  | .tf2 => 0b10100#5
  | .tf3 => 0b10110#5

/-! ## The codes as a parameter -/

/-- `ROTNR_CODE85` (R5, R96): the fixed field I[8:5] of ROTNR. -/
inductive RotnrCode85 where
  /-- 1101, as the source prints it. -/
  | printed
  /-- 1100, shared with BONR. -/
  | shared
  deriving DecidableEq, Repr

/-- The value of the field. -/
def RotnrCode85.code : RotnrCode85 → BitVec 4
  | .printed => 0b1101#4
  | .shared => 0b1100#4

/-- The fixed fields F1 and F2 of a format with a B/W bit whose row prints neither (R105). -/
structure FixedCode where
  f1 : BitVec 4
  f2 : BitVec 4
  deriving DecidableEq, Repr

/-- The fixed bit I[15] and fields F1 and F2 of a format whose row prints none of them (R75, R103, R104,
R106, R107). -/
structure FixedWord where
  w : Width
  f1 : BitVec 4
  f2 : BitVec 4
  deriving DecidableEq, Repr

/-- `CODES` and `ROTNR_CODE85` (R5): an assignment of binary codes to every mnemonic of 30_encoding.md.
It is free in all that 93_implementation_defined.md section 3.2 lists; the quadrant bits (R80) and the
fixed field of BONR (R93), which the source prints, are the same in every assignment. The code of a
mnemonic does not depend on the immediate word that follows it. -/
structure Codes where
  /-- Single-operand operations, F1 of SOR and SONR (R81). -/
  singleOp : SingleOp → BitVec 4
  /-- Source and destination forms of SOR, F2 (R82). -/
  sorForm : SorForm → BitVec 4
  /-- Sources of SONR, F2 (R83). -/
  sonrSource : SonrSource → BitVec 4
  /-- Destinations of SONR and TONR, F3 (R84). -/
  nrDest : NrDest → BitVec 5
  /-- Destinations of SHFTNR, PRTNR and SVSTNR, F3 (R84). -/
  nrShortDest : NrShortDest → BitVec 5
  /-- Two-operand operations, F2 of TOR1, TOR2 and TONR (R85). -/
  twoOp : TwoOp → BitVec 4
  /-- Forms of TOR1, F1 (R86). -/
  tor1Form : Tor1Form → BitVec 4
  /-- Forms of TOR2, F1 (R87). -/
  tor2Form : Tor2Form → BitVec 4
  /-- Forms of TONR, F1 (R88). -/
  tonrForm : TonrForm → BitVec 4
  /-- Shift operations, F2 of SHFTR and SHFTNR (R89). -/
  shiftOp : ShiftOp → BitVec 4
  /-- Forms of SHFTR, F1 (R90). -/
  shftrForm : ShftrForm → BitVec 4
  /-- Sources of SHFTNR, F1 (R90). -/
  shftnrSource : ShftnrSource → BitVec 4
  /-- Operations of BOR1, F2 (R91). -/
  bor1Op : Bor1Op → BitVec 4
  /-- Operations of BOR2, F2 (R92). -/
  bor2Op : Bor2Op → BitVec 4
  /-- Operations of BONR, F3 (R93). -/
  bonrOp : BonrOp → BitVec 5
  /-- Forms of ROTR1, F2 (R94). -/
  rotr1Form : Rotr1Form → BitVec 4
  /-- Forms of ROTR2, F2 (R95). -/
  rotr2Form : Rotr2Form → BitVec 4
  /-- Forms of ROTNR, F3 (R96). -/
  rotnrForm : RotnrForm → BitVec 5
  /-- Forms of ROTC, F2 (R97). -/
  rotcForm : RotcForm → BitVec 4
  /-- Forms of ROTM, F2 (R98). -/
  rotmForm : RotmForm → BitVec 4
  /-- Destinations of PRT1, F1 (R99). -/
  prt1Dest : Prt1Dest → BitVec 4
  /-- Sources R of PRT1, F2 (R99). -/
  prt1Source : Prt1Source → BitVec 4
  /-- Mask selectors of PRT2, PRT3 and PRTNR, F1 (R100). -/
  prtMask : PrtMask → BitVec 4
  /-- Destinations of PRT2, F2 (R100). -/
  prt2Dest : Prt2Dest → BitVec 4
  /-- Sources R of PRT3, F2 (R101). -/
  prt3Source : Prt3Source → BitVec 4
  /-- Sources R of PRTNR, F2 (R102). -/
  prtnrSource : PrtnrSource → BitVec 4
  /-- Operations of SETST, F3 (R104). -/
  setOp : SetOp → BitVec 5
  /-- Operations of RSTST, F3 (R104). -/
  rstOp : RstOp → BitVec 5
  /-- Test conditions of TSTST, F3 (R106). -/
  testCond : TestCond → BitVec 5
  /-- I[15], F1 and F2 of CRCF (R103). -/
  crcf : FixedWord
  /-- I[15], F1 and F2 of CRCR (R103). -/
  crcr : FixedWord
  /-- I[15], F1 and F2 of SETST (R104). -/
  setst : FixedWord
  /-- I[15], F1 and F2 of RSTST (R104). -/
  rstst : FixedWord
  /-- F1 and F2 of SVSTR (R105). -/
  svstr : FixedCode
  /-- F1 and F2 of SVSTNR (R105). -/
  svstnr : FixedCode
  /-- I[15], F1 and F2 of TSTST (R106). -/
  tstst : FixedWord
  /-- I[15], F1 and F2 of NOP (R107). -/
  nop : FixedWord
  /-- F3 of NOP (R107). -/
  nopF3 : BitVec 5
  /-- F2 of ROTNR (R96). -/
  rotnrCode85 : RotnrCode85
  ignoresImmediate : ∀ v : Word,
    sorForm (.soir v) = sorForm (.soir 0) ∧ sonrSource (.soi v) = sonrSource (.soi 0) ∧
    tor1Form (.toria v) = tor1Form (.toria 0) ∧ tor1Form (.toriy v) = tor1Form (.toriy 0) ∧
    tor1Form (.torir v) = tor1Form (.torir 0) ∧ tor2Form (.toair v) = tor2Form (.toair 0) ∧
    tor2Form (.todir v) = tor2Form (.todir 0) ∧ tonrForm (.toai v) = tonrForm (.toai 0) ∧
    tonrForm (.todi v) = tonrForm (.todi 0) ∧ rotcForm (.cdai v) = rotcForm (.cdai 0) ∧
    rotcForm (.cdri v) = rotcForm (.cdri 0) ∧ rotcForm (.crai v) = rotcForm (.crai 0) ∧
    rotmForm (.mdai v) = rotmForm (.mdai 0) ∧ rotmForm (.mdri v) = rotmForm (.mdri 0) ∧
    rotmForm (.mari v) = rotmForm (.mari 0) ∧ rotmForm (.mrai v) = rotmForm (.mrai 0) ∧
    prtMask (.pri v) = prtMask (.pri 0)

/-- The default of R5: the codes of R81 to R107. -/
def Codes.standard : Codes where
  singleOp := SingleOp.code
  sorForm := SorForm.code
  sonrSource := SonrSource.code
  nrDest := NrDest.code
  nrShortDest := NrShortDest.code
  twoOp := TwoOp.code
  tor1Form := Tor1Form.code
  tor2Form := Tor2Form.code
  tonrForm := TonrForm.code
  shiftOp := ShiftOp.code
  shftrForm := ShftrForm.code
  shftnrSource := ShftnrSource.code
  bor1Op := Bor1Op.code
  bor2Op := Bor2Op.code
  bonrOp := BonrOp.code
  rotr1Form := Rotr1Form.code
  rotr2Form := Rotr2Form.code
  rotnrForm := RotnrForm.code
  rotcForm := RotcForm.code
  rotmForm := RotmForm.code
  prt1Dest := Prt1Dest.code
  prt1Source := Prt1Source.code
  prtMask := PrtMask.code
  prt2Dest := Prt2Dest.code
  prt3Source := Prt3Source.code
  prtnrSource := PrtnrSource.code
  setOp := SetOp.code
  rstOp := RstOp.code
  testCond := TestCond.code
  crcf := ⟨.word, 0b0110#4, 0b0011#4⟩
  crcr := ⟨.word, 0b0110#4, 0b1001#4⟩
  setst := ⟨.byte, 0b1011#4, 0b1010#4⟩
  rstst := ⟨.byte, 0b1010#4, 0b1010#4⟩
  svstr := ⟨0b0111#4, 0b1010#4⟩
  svstnr := ⟨0b0111#4, 0b1010#4⟩
  tstst := ⟨.byte, 0b1001#4, 0b1010#4⟩
  nop := ⟨.byte, 0b1000#4, 0b1010#4⟩
  nopF3 := 0b00000#5
  rotnrCode85 := .shared
  ignoresImmediate := by intro; simp [SorForm.code, SonrSource.code, Tor1Form.code, Tor2Form.code,
    TonrForm.code, RotcForm.code, RotmForm.code, PrtMask.code]

/-! ## The encoder -/

/-- The fields of a format's instruction word under an assignment of codes (R71, with the fixed fields of
R75, R93, R96 and R103 to R107). -/
def Format.fieldsWith (c : Codes) (f : Format) : Fields :=
  match f with
  | .sor op form w a => ⟨w, 0b10#2, c.singleOp op, c.sorForm form, a⟩
  | .sonr op src dst w => ⟨w, 0b11#2, c.singleOp op, c.sonrSource src, c.nrDest dst⟩
  | .tor1 form op w a => ⟨w, 0b00#2, c.tor1Form form, c.twoOp op, a⟩
  | .tor2 form op w a => ⟨w, 0b10#2, c.tor2Form form, c.twoOp op, a⟩
  | .tonr form op dst w => ⟨w, 0b11#2, c.tonrForm form, c.twoOp op, c.nrDest dst⟩
  | .shftr form op w a => ⟨w, 0b10#2, c.shftrForm form, c.shiftOp op, a⟩
  | .shftnr src op dst w => ⟨w, 0b11#2, c.shftnrSource src, c.shiftOp op, c.nrShortDest dst⟩
  | .bor1 op w n a => ⟨w, 0b11#2, n, c.bor1Op op, a⟩
  | .bor2 op w n a => ⟨w, 0b10#2, n, c.bor2Op op, a⟩
  | .bonr op w n => ⟨w, 0b11#2, n, 0b1100#4, c.bonrOp op⟩
  | .rotr1 form w n a => ⟨w, 0b00#2, n, c.rotr1Form form, a⟩
  | .rotr2 form w n a => ⟨w, 0b01#2, n, c.rotr2Form form, a⟩
  | .rotnr form w n => ⟨w, 0b11#2, n, c.rotnrCode85.code, c.rotnrForm form⟩
  | .rotc form w n a => ⟨w, 0b01#2, n, c.rotcForm form, a⟩
  | .rotm form w n a => ⟨w, 0b01#2, n, c.rotmForm form, a⟩
  | .prt1 dst src w a => ⟨w, 0b10#2, c.prt1Dest dst, c.prt1Source src, a⟩
  | .prt2 mask dst w a => ⟨w, 0b10#2, c.prtMask mask, c.prt2Dest dst, a⟩
  | .prt3 mask src w a => ⟨w, 0b10#2, c.prtMask mask, c.prt3Source src, a⟩
  | .prtnr mask src dst w => ⟨w, 0b11#2, c.prtMask mask, c.prtnrSource src, c.nrShortDest dst⟩
  | .crcf a => ⟨c.crcf.w, 0b10#2, c.crcf.f1, c.crcf.f2, a⟩
  | .crcr a => ⟨c.crcr.w, 0b10#2, c.crcr.f1, c.crcr.f2, a⟩
  | .setst op => ⟨c.setst.w, 0b11#2, c.setst.f1, c.setst.f2, c.setOp op⟩
  | .rstst op => ⟨c.rstst.w, 0b11#2, c.rstst.f1, c.rstst.f2, c.rstOp op⟩
  | .svstr w a => ⟨w, 0b10#2, c.svstr.f1, c.svstr.f2, a⟩
  | .svstnr dst w => ⟨w, 0b11#2, c.svstnr.f1, c.svstnr.f2, c.nrShortDest dst⟩
  | .tstst cond => ⟨c.tstst.w, 0b11#2, c.tstst.f1, c.tstst.f2, c.testCond cond⟩
  | .nop => ⟨c.nop.w, 0b11#2, c.nop.f1, c.nop.f2, c.nopF3⟩

/-- The words of an instruction under an assignment of codes: the instruction word and, for the forms of
R391, the immediate word (R70, R76). -/
def encodeWith (c : Codes) (i : Instr) : List Word :=
  (i.format.fieldsWith c).assemble :: i.format.immediate.toList

/-- The fields of a format's instruction word under the default codes. -/
def Format.fields (f : Format) : Fields := f.fieldsWith .standard

/-- The words of a format under the default codes. -/
def Format.words (f : Format) : List Word := f.fields.assemble :: f.immediate.toList

/-- The words of an instruction under the default codes. -/
def encode (i : Instr) : List Word := i.format.words

/-! ## The decoder under any assignment of codes -/

/-- Single-operand operations, F1 of SOR and SONR, all of them. -/
def SingleOp.all : List SingleOp :=
  [.move, .comp, .inc, .neg]

/-- Source and destination forms of SOR, F2, all of them. -/
def SorForm.all (imm : Word) : List SorForm :=
  [.sora, .sory, .sors, .soar, .sodr, .soir imm, .sozr, .sozer, .soser, .sorr]

/-- Sources of SONR, F2, all of them. -/
def SonrSource.all (imm : Word) : List SonrSource :=
  [.soa, .sod, .soi imm, .soz, .soze, .sose]

/-- Destinations of SONR and TONR, F3, all of them. -/
def NrDest.all : List NrDest :=
  [.nry, .nra, .nrs, .nras]

/-- Destinations of SHFTNR, PRTNR and SVSTNR, F3, all of them. -/
def NrShortDest.all : List NrShortDest :=
  [.nry, .nra]

/-- Two-operand operations, F2 of TOR1, TOR2 and TONR, all of them. -/
def TwoOp.all : List TwoOp :=
  [.subr, .subrc, .subs, .subsc, .add, .addc, .and, .nand, .exor, .nor, .or, .exnor]

/-- Forms of TOR1, F1, all of them. -/
def Tor1Form.all (imm : Word) : List Tor1Form :=
  [.toraa, .toria imm, .todra, .toray, .toriy imm, .todry, .torar, .torir imm, .todrr]

/-- Forms of TOR2, F1, all of them. -/
def Tor2Form.all (imm : Word) : List Tor2Form :=
  [.todar, .toair imm, .todir imm]

/-- Forms of TONR, F1, all of them. -/
def TonrForm.all (imm : Word) : List TonrForm :=
  [.toda, .toai imm, .todi imm]

/-- Shift operations, F2 of SHFTR and SHFTNR, all of them. -/
def ShiftOp.all : List ShiftOp :=
  [.shupz, .shup1, .shupl, .shdnz, .shdn1, .shdnl, .shdnc, .shdnov]

/-- Forms of SHFTR, F1, all of them. -/
def ShftrForm.all : List ShftrForm :=
  [.shrr, .shdr]

/-- Sources of SHFTNR, F1, all of them. -/
def ShftnrSource.all : List ShftnrSource :=
  [.sha, .shd]

/-- Operations of BOR1, F2, all of them. -/
def Bor1Op.all : List Bor1Op :=
  [.setnr, .rstnr, .tstnr]

/-- Operations of BOR2, F2, all of them. -/
def Bor2Op.all : List Bor2Op :=
  [.ld2nr, .ldc2nr, .a2nr, .s2nr]

/-- Operations of BONR, F3, all of them. -/
def BonrOp.all : List BonrOp :=
  [.tstna, .rstna, .setna, .a2na, .s2na, .ld2na, .ldc2na,
    .tstnd, .rstnd, .setnd, .a2ndy, .s2ndy, .ld2ny, .ldc2ny]

/-- Forms of ROTR1, F2, all of them. -/
def Rotr1Form.all : List Rotr1Form :=
  [.rtra, .rtry, .rtrr]

/-- Forms of ROTR2, F2, all of them. -/
def Rotr2Form.all : List Rotr2Form :=
  [.rtar, .rtdr]

/-- Forms of ROTNR, F3, all of them. -/
def RotnrForm.all : List RotnrForm :=
  [.rtdy, .rtda, .rtay, .rtaa]

/-- Forms of ROTC, F2, all of them. -/
def RotcForm.all (imm : Word) : List RotcForm :=
  [.cdai imm, .cdri imm, .cdra, .crai imm]

/-- Forms of ROTM, F2, all of them. -/
def RotmForm.all (imm : Word) : List RotmForm :=
  [.mdai imm, .mdar, .mdri imm, .mdra, .mari imm, .mrai imm]

/-- Destinations of PRT1, F1, all of them. -/
def Prt1Dest.all : List Prt1Dest :=
  [.pr1a, .pr1y, .pr1r]

/-- Sources R of PRT1, F2, all of them. -/
def Prt1Source.all : List Prt1Source :=
  [.prt1a, .prt1d]

/-- Mask selectors of PRT2, PRT3 and PRTNR, F1, all of them. -/
def PrtMask.all (imm : Word) : List PrtMask :=
  [.pra, .prz, .pri imm]

/-- Destinations of PRT2, F2, all of them. -/
def Prt2Dest.all : List Prt2Dest :=
  [.pr2a, .pr2y]

/-- Sources R of PRT3, F2, all of them. -/
def Prt3Source.all : List Prt3Source :=
  [.pr3r, .pr3a, .pr3d]

/-- Sources R of PRTNR, F2, all of them. -/
def PrtnrSource.all : List PrtnrSource :=
  [.prta, .prtd]

/-- Operations of SETST, F3, all of them. -/
def SetOp.all : List SetOp :=
  [.sonccz, .sl, .sf1, .sf2, .sf3]

/-- Operations of RSTST, F3, all of them. -/
def RstOp.all : List RstOp :=
  [.ronccz, .rl, .rf1, .rf2, .rf3]

/-- Test conditions of TSTST, F3, all of them. -/
def TestCond.all : List TestCond :=
  [.tnoz, .tno, .tz, .tovr, .tlow, .tc, .tzc, .tn, .tl, .tf1, .tf2, .tf3]

/-- Every format with every mnemonic, its W, n, a and immediate word taken from the fields of a word and
the word after it: the 573 rows of the opcode table at one word (R112). -/
def Format.all (i : Fields) (imm : Word) : List Format :=
  List.flatten [
    SingleOp.all.flatMap fun x => (SorForm.all imm).map fun y => .sor x y i.w i.f3,
    SingleOp.all.flatMap fun x => (SonrSource.all imm).flatMap fun y => NrDest.all.map
      fun z => .sonr x y z i.w,
    (Tor1Form.all imm).flatMap fun x => TwoOp.all.map fun y => .tor1 x y i.w i.f3,
    (Tor2Form.all imm).flatMap fun x => TwoOp.all.map fun y => .tor2 x y i.w i.f3,
    (TonrForm.all imm).flatMap fun x => TwoOp.all.flatMap fun y => NrDest.all.map
      fun z => .tonr x y z i.w,
    ShftrForm.all.flatMap fun x => ShiftOp.all.map fun y => .shftr x y i.w i.f3,
    ShftnrSource.all.flatMap fun x => ShiftOp.all.flatMap fun y => NrShortDest.all.map
      fun z => .shftnr x y z i.w,
    Bor1Op.all.map fun x => .bor1 x i.w i.f1 i.f3,
    Bor2Op.all.map fun x => .bor2 x i.w i.f1 i.f3,
    BonrOp.all.map fun x => .bonr x i.w i.f1,
    Rotr1Form.all.map fun x => .rotr1 x i.w i.f1 i.f3,
    Rotr2Form.all.map fun x => .rotr2 x i.w i.f1 i.f3,
    RotnrForm.all.map fun x => .rotnr x i.w i.f1,
    (RotcForm.all imm).map fun x => .rotc x i.w i.f1 i.f3,
    (RotmForm.all imm).map fun x => .rotm x i.w i.f1 i.f3,
    Prt1Dest.all.flatMap fun x => Prt1Source.all.map fun y => .prt1 x y i.w i.f3,
    (PrtMask.all imm).flatMap fun x => Prt2Dest.all.map fun y => .prt2 x y i.w i.f3,
    (PrtMask.all imm).flatMap fun x => Prt3Source.all.map fun y => .prt3 x y i.w i.f3,
    (PrtMask.all imm).flatMap fun x => PrtnrSource.all.flatMap fun y => NrShortDest.all.map
      fun z => .prtnr x y z i.w,
    [.crcf i.f3],
    [.crcr i.f3],
    SetOp.all.map fun x => .setst x,
    RstOp.all.map fun x => .rstst x,
    [.svstr i.w i.f3],
    NrShortDest.all.map fun x => .svstnr x i.w,
    TestCond.all.map fun x => .tstst x,
    [.nop]]

/-- The formats whose fields under `c` are those of `word`. -/
def readings (c : Codes) (word imm : Word) : List Format :=
  (Format.all (fieldsOf word) imm).filter fun f => decide (f.fieldsWith c = fieldsOf word)

/-- The format of a word under `c`: its one reading, or nothing where it has none or where `c` gives it
two (R78; notes/assumptions/39.md). -/
def formatWith (c : Codes) (word imm : Word) : Option Format :=
  match readings c word imm with
  | [] => none
  | f :: rest => if rest.all (fun g => decide (g = f)) then some f else none

/-- The decoder under an assignment of codes. -/
noncomputable def decodeWith (c : Codes) : List Word → DecodeResult := readInstr (formatWith c)

end Sys2Proof
end

