-- ==== Sys2Proof/Config.lean ====
section
/-! DEFINITION. The named parameters of R5 that the effects of instructions depend on, and the free
values: what the spec calls a draw, an unconstrained value fresh at each use. -/

namespace Sys2Proof

/-- `BYTE_Y_UPPER` (R5, R28, R202): Y[15:8] in byte mode. -/
inductive ByteYUpper where
  | draw | asTabled
  deriving DecidableEq, Repr

/-- `SUB_CARRY` (R5, R166): the sense of C after a subtraction. -/
inductive SubCarry where
  | carry | borrow
  deriving DecidableEq, Repr

/-- `SUBC_FORM` (R5, R166): the meaning of "S – R + C". -/
inductive SubcForm where
  | carryIn | literal
  deriving DecidableEq, Repr

/-- `ST_LAYOUT` (R5, R23): the order of N and OVR inside РгС. -/
inductive StLayout where
  | sourceOrder | swapped
  deriving DecidableEq, Repr

/-- `ST_LOAD_BYTE` (R5, R35): which bits of РгС a byte-mode load writes. -/
inductive StLoadByte where
  | low4 | all8
  deriving DecidableEq, Repr

/-- `BIT_ADD_FLAGS_RAM` (R5, R239): C and OVR after A2NR and S2NR. -/
inductive BitAddFlagsRam where
  | updated | zero
  deriving DecidableEq, Repr

/-- `BIT_BYTE_HIGH_N` (R5, R233): a bit number above 7 in byte mode. -/
inductive BitByteHighN where
  | refuse | wrap
  deriving DecidableEq, Repr

/-- `PRIORITY_CODE` (R5, R311): the numbering of the priority code. -/
inductive PriorityCode where
  | fromMsb | bitIndex
  deriving DecidableEq, Repr

/-- `CT_POLARITY` (R5, R376): the level of CT that means "condition true". -/
inductive CtPolarity where
  | trueIs1 | trueIs0
  deriving DecidableEq, Repr

/-- The named parameters of R5 that the effect of an instruction depends on. `CODES` and `ROTNR_CODE85`
are `Codes` of Decode.lean; `Configuration` of Machine/Configured.lean joins both with `RESET_STATE`. -/
structure Params where
  byteYUpper : ByteYUpper
  subCarry : SubCarry
  subcForm : SubcForm
  stLayout : StLayout
  stLoadByte : StLoadByte
  bitAddFlagsRam : BitAddFlagsRam
  bitByteHighN : BitByteHighN
  /-- `BONR_D_WRITEBACK` (R252): whether RSTND and SETND write Рг.D. -/
  bonrDWriteback : Bool
  priorityCode : PriorityCode
  ctPolarity : CtPolarity
  deriving DecidableEq, Repr

namespace Config

/-- DESIGN CHOICE (notes/assumptions/2.md): the free value of Y in the steps of TSTST and NOP, by
the number of the draw (R28, R376, R390). -/
opaque freeY : Nat → Word

/-- DESIGN CHOICE (notes/assumptions/2.md): the free value of Y[15:8] in byte mode (R28). -/
opaque freeYHigh : Nat → BitVec 8

/-- DESIGN CHOICE (notes/assumptions/2.md): the free value of CT outside TSTST (R29). -/
opaque freeCT : Nat → Bool

/-- DESIGN CHOICE (notes/assumptions/2.md): C after SUBRC and SUBSC under `SUBC_FORM = literal`
(R166). -/
opaque freeCarry : Nat → Bool

/-- DESIGN CHOICE (notes/assumptions/2.md): OVR after SUBRC and SUBSC under `SUBC_FORM = literal`
(R166). -/
opaque freeOverflow : Nat → Bool

/-- DESIGN CHOICE (notes/assumptions/2.md): the 5-bit code for "no bit set" under
`PRIORITY_CODE = bit_index`, which R311 leaves without a value. -/
opaque freeNoneCode : Nat → BitVec 5

end Config

end Sys2Proof
end

