-- ==== Sys2Proof/Machine/State.lean ====
section
/-! DEFINITION. The machine's state, the ways a step can stop, and the state after reset. -/

namespace Sys2Proof.Machine

/-- The status register РгС, one field per bit of its format row (R23). Where each bit stands in the
byte is `Status.toByte` (Flags.lean). -/
structure Status where
  fl3 : Bool
  fl2 : Bool
  fl1 : Bool
  /-- The link bit (R31). -/
  l : Bool
  n : Bool
  ovr : Bool
  c : Bool
  z : Bool
  deriving DecidableEq, Repr

/-- The state of the machine. The first four fields are the registers of R20 to R23, the next two the
outputs of R28 and R29, then the instruction stream of R30 with its index. `dFeed` and `draws` are
the model's own (notes/assumptions/4.md, notes/assumptions/2.md). -/
structure State where
  /-- The register file РЗУ, `x[0]` to `x[31]` (R20). -/
  x : Vector Word 32
  /-- The accumulator Акк (R21). -/
  acc : Word
  /-- The data register Рг.D (R22, R24). -/
  d : Word
  /-- The status register РгС (R23). -/
  st : Status
  /-- The value the latest instruction put on the Y bus (R28). -/
  y : Word
  /-- The value the latest instruction put on CT (R29). -/
  ct : Bool
  /-- The instruction stream (R30). -/
  prog : List Word
  /-- The index in `prog` of the next word to execute (R30). -/
  ip : Nat
  /-- What the host does to Рг.D before each coming step, first entry first: `some v` loads `v`,
  `none` leaves Рг.D alone; when the list is empty the host does nothing more (R24, R56). -/
  dFeed : List (Option Word)
  /-- How many steps have drawn free values. -/
  draws : Nat
  deriving DecidableEq, Repr

/-- Why the machine stops without a next state and without a refusal. The hardware has no exception
(R400). -/
inductive Fault where
  /-- Raised by `step` when no word of the stream is left to execute: the run has ended and the state
  reached is its final state (R30). Safe: nothing is claimed past the end of the stream. -/
  | endOfProgram
  deriving DecidableEq, Repr

/-- Why a step gives no meaning (R401). -/
inductive Refusal where
  /-- Raised by an arm of `exec` whose instruction has no meaning yet; no arm raises it. Safe. -/
  | notModelled (mnemonic : String)
  /-- Raised by `step` for a word that matches no row of the opcode table (R78). Safe. -/
  | undecodableWord (word : Word)
  /-- Raised by `step` when a form that takes I stands in the last word of the stream (R392). Safe. -/
  | immediateOperandMissing
  /-- Raised by the bit instructions in byte mode with n above 7 (R233). Safe. -/
  | bitNumberAbove7
  /-- Raised by the prioritize instructions whose operand and mask come from the same source
  (R316). Safe. -/
  | sameSource
  deriving DecidableEq, Repr

/-- What a step gives. -/
abbrev Result := Host.Outcome State Fault Refusal

/-- The machine after reset. DESIGN CHOICE (notes/assumptions/1.md): the spec gives no reset value
but `ip` = 0 (R32); every register, flag and output is zero. The host has loaded no program. -/
def State.reset : State where
  x := Vector.replicate 32 0
  acc := 0
  d := 0
  st := ⟨false, false, false, false, false, false, false, false⟩
  y := 0
  ct := false
  prog := []
  ip := 0
  dFeed := []
  draws := 0

end Sys2Proof.Machine
end

