-- ==== Sys2Proof/Machine/Flags.lean ====
section
/-! DEFINITION. The adder, every flag computation, and the byte view of the status register. -/

namespace Sys2Proof.Machine

variable {k : Nat}

/-! ## The adder -/

/-- What `add_w` of R8 returns. -/
structure AddResult (k : Nat) where
  sum : BitVec k
  cout : Bool
  ovf : Bool
  deriving DecidableEq, Repr

/-- `add_w` of R8 on `k`-bit values: the unbounded sum, its low `k` bits, its carry out, and the
overflow as the carry into the top bit XOR the carry out. -/
def addW (a b : BitVec k) (cin : Bool) : AddResult k :=
  let t := a.toNat + b.toNat + cin.toNat
  let half := 2 ^ (k - 1)
  let intoMsb := (a.toNat % half + b.toNat % half + cin.toNat) / half != 0
  let cout := t / 2 ^ k != 0
  { sum := BitVec.ofNat k t, cout := cout, ovf := intoMsb ^^ cout }

/-! ## Flag updates of R8 -/

/-- `setNZ`. -/
def setNZ (r : BitVec k) (st : Status) : Status :=
  { st with n := r.msb, z := decide (r = 0) }

/-- `logic_flags`. -/
def logicFlags (r : BitVec k) (st : Status) : Status :=
  { setNZ r st with c := false, ovr := false }

/-- `arith_flags`. -/
def arithFlags (r : BitVec k) (cout ovf : Bool) (st : Status) : Status :=
  { setNZ r st with c := cout, ovr := ovf }

/-- The flags of a shift: N and Z of the result, C and OVR cleared, L the bit shifted out (R203). -/
def shiftFlags (r : BitVec k) (lout : Bool) (st : Status) : Status :=
  { logicFlags r st with l := lout }

/-- C after a subtraction whose adder carried out `cout`, by `SUB_CARRY` (R166). -/
def subtractionCarry (p : SubCarry) (cout : Bool) : Bool :=
  match p with
  | .carry => cout
  | .borrow => !cout

/-! ## Results -/

/-- A computed result and the status register with the operation's flag update. -/
structure AluResult (k : Nat) where
  value : BitVec k
  st : Status
  deriving DecidableEq, Repr

/-- A result that sets the flags by `logic_flags`. -/
def logicResult (r : BitVec k) (st : Status) : AluResult k := ⟨r, logicFlags r st⟩

/-- A result of the adder that sets the flags by `arith_flags`. -/
def arithResult (t : AddResult k) (st : Status) : AluResult k :=
  ⟨t.sum, arithFlags t.sum t.cout t.ovf st⟩

/-- The subtraction `a - b` as an addition of the complement (R166). -/
def subtract (p : Params) (a b : BitVec k) (st : Status) : AluResult k :=
  let t := addW a (~~~b) true
  ⟨t.sum, arithFlags t.sum (subtractionCarry p.subCarry t.cout) t.ovf st⟩

/-- The subtraction "a – b + C", by `SUBC_FORM` (R166). `draw` numbers the free C and OVR of the
literal form. -/
def subtractWithCarry (p : Params) (draw : Nat) (a b : BitVec k) (st : Status) : AluResult k :=
  match p.subcForm with
  | .carryIn =>
    let t := addW a (~~~b) st.c
    ⟨t.sum, arithFlags t.sum (subtractionCarry p.subCarry t.cout) t.ovf st⟩
  | .literal =>
    let r := a - b + (BitVec.ofBool st.c).setWidth k
    ⟨r, arithFlags r (Config.freeCarry draw) (Config.freeOverflow draw) st⟩

/-! ## The status register as a byte -/

/-- РгС as a byte, by `ST_LAYOUT` (R23). -/
def Status.toByte (layout : StLayout) (st : Status) : BitVec 8 :=
  let b := BitVec.ofBool
  match layout with
  | .sourceOrder => b st.fl3 ++ b st.fl2 ++ b st.fl1 ++ b st.l ++ b st.n ++ b st.ovr ++ b st.c ++ b st.z
  | .swapped => b st.fl3 ++ b st.fl2 ++ b st.fl1 ++ b st.l ++ b st.ovr ++ b st.n ++ b st.c ++ b st.z

/-- The flags a byte stands for, by `ST_LAYOUT` (R23). -/
def Status.ofByte (layout : StLayout) (v : BitVec 8) : Status where
  fl3 := v.getLsbD 7
  fl2 := v.getLsbD 6
  fl1 := v.getLsbD 5
  l := v.getLsbD 4
  n := match layout with
    | .sourceOrder => v.getLsbD 3
    | .swapped => v.getLsbD 2
  ovr := match layout with
    | .sourceOrder => v.getLsbD 2
    | .swapped => v.getLsbD 3
  c := v.getLsbD 1
  z := v.getLsbD 0

/-- `load_st` of R35: РгС after a load of the result `r`. -/
def loadSt (p : Params) (w : Width) (r : BitVec w.bits) (st : Status) : Status :=
  let v := Status.ofByte p.stLayout (r.setWidth 8)
  match w, p.stLoadByte with
  | .byte, .low4 => { st with n := v.n, ovr := v.ovr, c := v.c, z := v.z }
  | .byte, .all8 => v
  | .word, _ => v

end Sys2Proof.Machine
end

