-- ==== Sys2Proof/Machine/Operands.lean ====
section
/-! DEFINITION. Operands: what an operand form names as sources, masks and destination (R77). -/

namespace Sys2Proof.Machine

/-! ## Sources -/

/-- A source operand or a mask. -/
inductive Src where
  /-- РЗУ: `x[a]`. -/
  | reg (a : Reg)
  /-- Акк. -/
  | acc
  /-- Рг.D. -/
  | d
  /-- Рг.D.0: the low byte of Рг.D extended with zeros (R22). -/
  | dZero
  /-- Рг.D.S: the low byte of Рг.D extended with its sign (R22). -/
  | dSign
  /-- I: the immediate word (R76). -/
  | imm (v : Word)
  /-- The constant 0. -/
  | zero
  deriving DecidableEq, Repr

/-- The register-file entry `x[a]` (R20). -/
def State.reg (s : State) (a : Reg) : Word := s.x[a.toNat]'a.isLt

/-- The 16-bit value of a source. -/
def State.read (s : State) (src : Src) : Word :=
  match src with
  | .reg a => s.reg a
  | .acc => s.acc
  | .d => s.d
  | .dZero => (s.d.setWidth 8).setWidth 16
  | .dSign => (s.d.setWidth 8).signExtend 16
  | .imm v => v
  | .zero => 0

/-- `lo_w` of R8: the low byte in byte mode, the whole word in word mode. -/
def loW (w : Width) (v : Word) : BitVec w.bits := v.setWidth w.bits

/-- The operand an instruction of width `w` takes from a source. -/
def State.operand (s : State) (w : Width) (src : Src) : BitVec w.bits := loW w (s.read src)

/-- How many words of the stream an instruction has whose only possible immediate is `src` (R392). -/
def Src.instrWords : Src → Nat
  | .imm _ => 2
  | .reg _ | .acc | .d | .dZero | .dSign | .zero => 1

/-! ## Destinations -/

/-- A destination. -/
inductive Dst where
  /-- РЗУ: `x[a]`. -/
  | reg (a : Reg)
  /-- Акк. -/
  | acc
  /-- РгС. -/
  | st
  /-- Акк and РгС together. -/
  | accSt
  /-- The Y bus only. -/
  | y
  /-- Рг.D, named only under `BONR_D_WRITEBACK` (R252). -/
  | d
  deriving DecidableEq, Repr

/-- Whether a destination includes РгС (R35). -/
def Dst.loadsStatus : Dst → Bool
  | .st | .accSt => true
  | .reg _ | .acc | .y | .d => false

end Sys2Proof.Machine

namespace Sys2Proof

open Machine (Src Dst)

/-! ## Destinations without a register-file address (R144 to R147) -/

/-- The destination column of Табл. 10.11 and 10.13. -/
def NrDest.dst : NrDest → Dst
  | .nry => .y
  | .nra => .acc
  | .nrs => .st
  | .nras => .accSt

/-- The destination column of Табл. 10.14 and 10.21 (R216, R329). -/
def NrShortDest.dst : NrShortDest → Dst
  | .nry => .y
  | .nra => .acc

/-! ## Single-operand forms (R128 to R143) -/

/-- The source column of Табл. 10.10. -/
def SorForm.src (form : SorForm) (a : Reg) : Src :=
  match form with
  | .sora | .sory | .sors | .sorr => .reg a
  | .soar => .acc
  | .sodr => .d
  | .soir imm => .imm imm
  | .sozr => .zero
  | .sozer => .dZero
  | .soser => .dSign

/-- The destination column of Табл. 10.10. -/
def SorForm.dst (form : SorForm) (a : Reg) : Dst :=
  match form with
  | .sora => .acc
  | .sory => .y
  | .sors => .st
  | .soar | .sodr | .soir _ | .sozr | .sozer | .soser | .sorr => .reg a

/-- The source column of Табл. 10.11. -/
def SonrSource.src : SonrSource → Src
  | .soa => .acc
  | .sod => .d
  | .soi imm => .imm imm
  | .soz => .zero
  | .soze => .dZero
  | .sose => .dSign

/-! ## Two-operand forms (R179 to R193): columns R, S and destination of Табл. 10.12 and 10.13 -/

/-- Column R of TOR1. -/
def Tor1Form.r (form : Tor1Form) (a : Reg) : Src :=
  match form with
  | .toraa | .toria _ | .toray | .toriy _ | .torar | .torir _ => .reg a
  | .todra | .todry | .todrr => .d

/-- Column S of TOR1. -/
def Tor1Form.s (form : Tor1Form) (a : Reg) : Src :=
  match form with
  | .toraa | .toray | .torar => .acc
  | .toria imm | .toriy imm | .torir imm => .imm imm
  | .todra | .todry | .todrr => .reg a

/-- The destination column of TOR1. -/
def Tor1Form.dst (form : Tor1Form) (a : Reg) : Dst :=
  match form with
  | .toraa | .toria _ | .todra => .acc
  | .toray | .toriy _ | .todry => .y
  | .torar | .torir _ | .todrr => .reg a

/-- Column R of TOR2. -/
def Tor2Form.r : Tor2Form → Src
  | .todar | .todir _ => .d
  | .toair _ => .acc

/-- Column S of TOR2. -/
def Tor2Form.s : Tor2Form → Src
  | .todar => .acc
  | .toair imm | .todir imm => .imm imm

/-- Column R of TONR. -/
def TonrForm.r : TonrForm → Src
  | .toda | .todi _ => .d
  | .toai _ => .acc

/-- Column S of TONR. -/
def TonrForm.s : TonrForm → Src
  | .toda => .acc
  | .toai imm | .todi imm => .imm imm

/-! ## Shift forms (R212 to R215) -/

/-- The source of a SHFTR form; its destination is `x[a]`. -/
def ShftrForm.src (form : ShftrForm) (a : Reg) : Src :=
  match form with
  | .shrr => .reg a
  | .shdr => .d

/-- The source of SHFTNR. -/
def ShftnrSource.src : ShftnrSource → Src
  | .sha => .acc
  | .shd => .d

/-! ## Rotate forms (R273 to R281) -/

/-- The destination of a ROTR1 form; its source is `x[a]`. -/
def Rotr1Form.dst (form : Rotr1Form) (a : Reg) : Dst :=
  match form with
  | .rtra => .acc
  | .rtry => .y
  | .rtrr => .reg a

/-- The source of a ROTR2 form; its destination is `x[a]`. -/
def Rotr2Form.src : Rotr2Form → Src
  | .rtar => .acc
  | .rtdr => .d

/-- The source of a ROTNR form. -/
def RotnrForm.src : RotnrForm → Src
  | .rtdy | .rtda => .d
  | .rtay | .rtaa => .acc

/-- The destination of a ROTNR form. -/
def RotnrForm.dst : RotnrForm → Dst
  | .rtdy | .rtay => .y
  | .rtda | .rtaa => .acc

/-! ## Rotate and compare forms (R292 to R295) -/

/-- The rotated operand U of ROTC. -/
def RotcForm.rotated (form : RotcForm) (a : Reg) : Src :=
  match form with
  | .cdai _ | .cdri _ | .cdra => .d
  | .crai _ => .reg a

/-- The non-rotated operand R of ROTC. -/
def RotcForm.fixed (form : RotcForm) (a : Reg) : Src :=
  match form with
  | .cdai _ | .crai _ => .acc
  | .cdri _ | .cdra => .reg a

/-- The mask M of ROTC. -/
def RotcForm.mask : RotcForm → Src
  | .cdai imm | .cdri imm | .crai imm => .imm imm
  | .cdra => .acc

/-! ## Rotate and merge forms (R298 to R303) -/

/-- The rotated operand U of ROTM. -/
def RotmForm.rotated (form : RotmForm) (a : Reg) : Src :=
  match form with
  | .mdai _ | .mdar | .mdri _ | .mdra => .d
  | .mari _ => .acc
  | .mrai _ => .reg a

/-- The non-rotated operand R of ROTM. -/
def RotmForm.fixed (form : RotmForm) (a : Reg) : Src :=
  match form with
  | .mdai _ | .mdar | .mrai _ => .acc
  | .mdri _ | .mdra | .mari _ => .reg a

/-- The destination of ROTM: the location of the non-rotated operand (R297). -/
def RotmForm.dst (form : RotmForm) (a : Reg) : Dst :=
  match form with
  | .mdai _ | .mdar | .mrai _ => .acc
  | .mdri _ | .mdra | .mari _ => .reg a

/-- The mask M of ROTM. -/
def RotmForm.mask (form : RotmForm) (a : Reg) : Src :=
  match form with
  | .mdai imm | .mdri imm | .mari imm | .mrai imm => .imm imm
  | .mdar => .reg a
  | .mdra => .acc

/-! ## Prioritize forms (R313 to R329) -/

/-- The destination of PRT1; its mask is `x[a]`. -/
def Prt1Dest.dst (dst : Prt1Dest) (a : Reg) : Dst :=
  match dst with
  | .pr1a => .acc
  | .pr1y => .y
  | .pr1r => .reg a

/-- The source R of PRT1. -/
def Prt1Source.src : Prt1Source → Src
  | .prt1a => .acc
  | .prt1d => .d

/-- The mask S of PRT2, PRT3 and PRTNR. -/
def PrtMask.src : PrtMask → Src
  | .pra => .acc
  | .prz => .zero
  | .pri imm => .imm imm

/-- The destination of PRT2; its source R is `x[a]`. -/
def Prt2Dest.dst : Prt2Dest → Dst
  | .pr2a => .acc
  | .pr2y => .y

/-- The source R of PRT3; its destination is `x[a]`. -/
def Prt3Source.src (src : Prt3Source) (a : Reg) : Src :=
  match src with
  | .pr3r => .reg a
  | .pr3a => .acc
  | .pr3d => .d

/-- The source R of PRTNR. -/
def PrtnrSource.src : PrtnrSource → Src
  | .prta => .acc
  | .prtd => .d

end Sys2Proof
end

