-- ==== Sys2Proof/Machine/Parameters.lean ====
section
/-! DEFINITION. The default values of the named parameters of R5, which exec, step and core run with. -/

namespace Sys2Proof.Machine

/-- The defaults of R5, which the spec's rules and test vectors use (notes/assumptions/5.md to
notes/assumptions/14.md). -/
def parameters : Params where
  byteYUpper := .draw
  subCarry := .carry
  subcForm := .carryIn
  stLayout := .sourceOrder
  stLoadByte := .low4
  bitAddFlagsRam := .updated
  bitByteHighN := .refuse
  bonrDWriteback := false
  priorityCode := .fromMsb
  ctPolarity := .trueIs1

end Sys2Proof.Machine
end

