-- ==== Sys2Proof/Machine/Ops.lean ====
section
/-! DEFINITION. The named operations every meaning is made of: register writes, the outputs, the end
of an instruction, the host's load of Рг.D, and reading the instruction stream. The hardware takes no
exception and returns from none (R400, R404), so there is no operation for either. -/

namespace Sys2Proof.Machine

/-! ## Registers -/

/-- `write_w` of R8: a byte-mode write keeps the high byte of the register (R26). -/
def writeW (w : Width) (old : Word) (r : BitVec w.bits) : Word :=
  match w, r with
  | .word, r => r
  | .byte, r => old.extractLsb' 8 8 ++ r

/-- `x[a] <- v` of R8. -/
def State.setReg (s : State) (a : Reg) (v : Word) : State :=
  { s with x := s.x.set a.toNat v a.isLt }

/-- The registers after a result of width `w` is written to a destination other than РгС, which
`statusAfter` treats. -/
def State.write (s : State) (w : Width) (dst : Dst) (r : BitVec w.bits) : State :=
  match dst with
  | .reg a => s.setReg a (writeW w (s.reg a) r)
  | .acc | .accSt => { s with acc := writeW w s.acc r }
  | .d => { s with d := writeW w s.d r }
  | .st | .y => s

/-- РгС after an instruction: the operation's flag update, or the load of the result where РгС is a
destination (R35). -/
def statusAfter (p : Params) (w : Width) (dst : Dst) (res : AluResult w.bits) (st : Status) : Status :=
  if dst.loadsStatus then loadSt p w res.value st else res.st

/-! ## Outputs -/

/-- Y for a result of width `w`; `high` is Y[15:8] in byte mode (R28). -/
def yBus (w : Width) (r : BitVec w.bits) (high : BitVec 8) : Word :=
  match w, r with
  | .word, r => r
  | .byte, r => high ++ r

/-! ## The end of an instruction -/

/-- The outputs and the index after an instruction of `words` words (R28, R29, R30). -/
def State.finish (s : State) (y : Word) (ct : Bool) (words : Nat) : State :=
  { s with y := y, ct := ct, ip := s.ip + words, draws := s.draws + 1 }

/-- The common end of R122, R163, R202 and the other execution rules: the result goes to the
destination and to Y, РгС is updated or loaded, CT is a draw. `res` was computed from `s`, before any
write (R27). -/
def State.complete (s : State) (p : Params) (w : Width) (dst : Dst) (res : AluResult w.bits)
    (yHigh : BitVec 8) (words : Nat) : State :=
  ({ s.write w dst res.value with st := statusAfter p w dst res s.st }).finish
    (yBus w res.value yHigh) (Config.freeCT s.draws) words

/-- An instruction that computes a result, with Y[15:8] a draw in byte mode (R28). -/
def State.deliver (s : State) (p : Params) (w : Width) (dst : Dst) (res : AluResult w.bits)
    (words : Nat) : Result :=
  .next (s.complete p w dst res (Config.freeYHigh s.draws) words)

/-! ## The host and the stream -/

/-- The host's move on Рг.D before a step (R24, R56). -/
def State.hostMove (s : State) : State :=
  match s.dFeed with
  | [] => s
  | none :: rest => { s with dFeed := rest }
  | some v :: rest => { s with d := v, dFeed := rest }

/-- The words of the stream from the index on (R30). -/
def State.stream (s : State) : List Word := s.prog.drop s.ip

/-- The stream with `words` placed from the index on; words before an index beyond the stream's end
are zero. -/
def State.withStream (s : State) (words : List Word) : State :=
  { s with
    prog := s.prog.take s.ip ++ List.replicate (s.ip - s.prog.length) 0 ++ words
      ++ s.prog.drop (s.ip + words.length) }

end Sys2Proof.Machine
end

