-- ==== Sys2Proof/Machine/Bit.lean ====
section
/-! DEFINITION. Bit instructions, formats BOR1, BOR2 and BONR (43_bit.md). -/

namespace Sys2Proof.Machine

/-- What a bit instruction does with its operand and 2^n (R233). -/
inductive BitKind where
  | set | reset | test | load | loadComplement | add | sub
  deriving DecidableEq, Repr

/-- `lo_w(b)` with b = 2^n (R233). -/
def bitMask (k n : Nat) : BitVec k := 1#k <<< n

/-- The result and flags of a bit instruction on the operand `v` and the mask `b` (R234 to R256).
`clearCarry` is the literal footnote of Табл. 10.16 for A2NR and S2NR (R239). -/
def bitOp {k : Nat} (p : Params) (clearCarry : Bool) (kind : BitKind) (v b : BitVec k) (st : Status) :
    AluResult k :=
  match kind with
  | .set => logicResult (v ||| b) st
  | .reset => logicResult (v &&& ~~~b) st
  | .test => logicResult (v &&& b) st
  | .load => logicResult b st
  | .loadComplement => logicResult (~~~b) st
  | .add =>
    if clearCarry then logicResult (v + b) st else arithResult (addW v b false) st
  | .sub =>
    if clearCarry then logicResult (v - b) st else subtract p v b st

/-- The bit number an instruction works on, or nothing where the spec gives n no meaning: in byte mode
n is 0 to 7, by `BIT_BYTE_HIGH_N` (R233). -/
def bitNumber (p : Params) (w : Width) (n : BitNo) : Option Nat :=
  match w with
  | .word => some n.toNat
  | .byte =>
    if n.toNat < 8 then some n.toNat
    else match p.bitByteHighN with
      | .refuse => none
      | .wrap => some (n.toNat % 8)

/-- R233 for an operand and a destination. -/
def runBit (p : Params) (clearCarry : Bool) (kind : BitKind) (src : Src) (dst : Dst) (w : Width)
    (n : BitNo) (s : State) : Result :=
  match bitNumber p w n with
  | none => .refused .bitNumberAbove7
  | some m => s.deliver p w dst (bitOp p clearCarry kind (s.operand w src) (bitMask w.bits m) s.st) 1

/-- Whether A2NR and S2NR clear C and OVR, by `BIT_ADD_FLAGS_RAM` (R239). -/
def ramAddClearsCarry (p : Params) : Bool :=
  match p.bitAddFlagsRam with
  | .updated => false
  | .zero => true

/-- Every BOR1 instruction (R230, R234 to R236). -/
def runBor1 (p : Params) (op : Bor1Op) (w : Width) (n : BitNo) (a : Reg) (s : State) : Result :=
  match op with
  | .setnr => runBit p false .set (.reg a) (.reg a) w n s
  | .rstnr => runBit p false .reset (.reg a) (.reg a) w n s
  | .tstnr => runBit p false .test (.reg a) .y w n s

/-- Every BOR2 instruction (R231, R237 to R240). -/
def runBor2 (p : Params) (op : Bor2Op) (w : Width) (n : BitNo) (a : Reg) (s : State) : Result :=
  match op with
  | .ld2nr => runBit p false .load .zero (.reg a) w n s
  | .ldc2nr => runBit p false .loadComplement .zero (.reg a) w n s
  | .a2nr => runBit p (ramAddClearsCarry p) .add (.reg a) (.reg a) w n s
  | .s2nr => runBit p (ramAddClearsCarry p) .sub (.reg a) (.reg a) w n s

/-- The destination of RSTND and SETND, by `BONR_D_WRITEBACK` (R251, R252). -/
def bonrDDst (p : Params) : Dst := if p.bonrDWriteback then .d else .y

/-- Every BONR instruction (R232, R241 to R256). -/
def runBonr (p : Params) (op : BonrOp) (w : Width) (n : BitNo) (s : State) : Result :=
  match op with
  | .tstna => runBit p false .test .acc .y w n s
  | .rstna => runBit p false .reset .acc .acc w n s
  | .setna => runBit p false .set .acc .acc w n s
  | .a2na => runBit p false .add .acc .acc w n s
  | .s2na => runBit p false .sub .acc .acc w n s
  | .ld2na => runBit p false .load .zero .acc w n s
  | .ldc2na => runBit p false .loadComplement .zero .acc w n s
  | .tstnd => runBit p false .test .d .y w n s
  | .rstnd => runBit p false .reset .d (bonrDDst p) w n s
  | .setnd => runBit p false .set .d (bonrDDst p) w n s
  | .a2ndy => runBit p false .add .d .y w n s
  | .s2ndy => runBit p false .sub .d .y w n s
  | .ld2ny => runBit p false .load .zero .y w n s
  | .ldc2ny => runBit p false .loadComplement .zero .y w n s

/-! ## BOR1 -/

/-- BOR1 SETNR: R234. -/
def execBor1Setnr (w : Width) (n : BitNo) (a : Reg) (s : State) : Result :=
  runBor1 parameters .setnr w n a s

/-- BOR1 RSTNR: R235. -/
def execBor1Rstnr (w : Width) (n : BitNo) (a : Reg) (s : State) : Result :=
  runBor1 parameters .rstnr w n a s

/-- BOR1 TSTNR: R236. -/
def execBor1Tstnr (w : Width) (n : BitNo) (a : Reg) (s : State) : Result :=
  runBor1 parameters .tstnr w n a s

/-! ## BOR2 -/

/-- BOR2 LD2NR: R237. -/
def execBor2Ld2nr (w : Width) (n : BitNo) (a : Reg) (s : State) : Result :=
  runBor2 parameters .ld2nr w n a s

/-- BOR2 LDC2NR: R238. -/
def execBor2Ldc2nr (w : Width) (n : BitNo) (a : Reg) (s : State) : Result :=
  runBor2 parameters .ldc2nr w n a s

/-- BOR2 A2NR: R239. -/
def execBor2A2nr (w : Width) (n : BitNo) (a : Reg) (s : State) : Result :=
  runBor2 parameters .a2nr w n a s

/-- BOR2 S2NR: R240. -/
def execBor2S2nr (w : Width) (n : BitNo) (a : Reg) (s : State) : Result :=
  runBor2 parameters .s2nr w n a s

/-! ## BONR -/

/-- BONR TSTNA: R241. -/
def execBonrTstna (w : Width) (n : BitNo) (s : State) : Result := runBonr parameters .tstna w n s

/-- BONR RSTNA: R242. -/
def execBonrRstna (w : Width) (n : BitNo) (s : State) : Result := runBonr parameters .rstna w n s

/-- BONR SETNA: R243. -/
def execBonrSetna (w : Width) (n : BitNo) (s : State) : Result := runBonr parameters .setna w n s

/-- BONR A2NA: R244. -/
def execBonrA2na (w : Width) (n : BitNo) (s : State) : Result := runBonr parameters .a2na w n s

/-- BONR S2NA: R245. -/
def execBonrS2na (w : Width) (n : BitNo) (s : State) : Result := runBonr parameters .s2na w n s

/-- BONR LD2NA: R246. -/
def execBonrLd2na (w : Width) (n : BitNo) (s : State) : Result := runBonr parameters .ld2na w n s

/-- BONR LDC2NA: R247. -/
def execBonrLdc2na (w : Width) (n : BitNo) (s : State) : Result := runBonr parameters .ldc2na w n s

/-- BONR TSTND: R248. -/
def execBonrTstnd (w : Width) (n : BitNo) (s : State) : Result := runBonr parameters .tstnd w n s

/-- BONR RSTND: R249. -/
def execBonrRstnd (w : Width) (n : BitNo) (s : State) : Result := runBonr parameters .rstnd w n s

/-- BONR SETND: R250. -/
def execBonrSetnd (w : Width) (n : BitNo) (s : State) : Result := runBonr parameters .setnd w n s

/-- BONR A2NDY: R255. -/
def execBonrA2ndy (w : Width) (n : BitNo) (s : State) : Result := runBonr parameters .a2ndy w n s

/-- BONR S2NDY: R256. -/
def execBonrS2ndy (w : Width) (n : BitNo) (s : State) : Result := runBonr parameters .s2ndy w n s

/-- BONR LD2NY: R253. -/
def execBonrLd2ny (w : Width) (n : BitNo) (s : State) : Result := runBonr parameters .ld2ny w n s

/-- BONR LDC2NY: R254. -/
def execBonrLdc2ny (w : Width) (n : BitNo) (s : State) : Result := runBonr parameters .ldc2ny w n s

end Sys2Proof.Machine
end

