-- ==== Sys2Proof/Machine/Crc.lean ====
section
/-! DEFINITION. Cyclic redundancy code steps CRCF and CRCR (47_crc.md). -/

namespace Sys2Proof.Machine

/-- The forward step of R342 on the check-sum register `v`, the polynomial mask and РгС. -/
def crcForward (v mask : Word) (st : Status) : AluResult 16 :=
  let r := (if st.l ^^ v.msb then mask else 0) ^^^ (v <<< 1)
  ⟨r, { logicFlags r st with l := v.msb }⟩

/-- The reverse step of R343. -/
def crcReverse (v mask : Word) (st : Status) : AluResult 16 :=
  let r := (if st.l ^^ v.getLsbD 0 then mask else 0) ^^^ (v >>> 1)
  ⟨r, { logicFlags r st with l := v.getLsbD 0 }⟩

/-- CRCF (R340, R342). -/
def runCrcf (p : Params) (a : Reg) (s : State) : Result :=
  s.deliver p .word (.reg a) (crcForward (s.reg a) s.acc s.st) 1

/-- CRCR (R340, R343). -/
def runCrcr (p : Params) (a : Reg) (s : State) : Result :=
  s.deliver p .word (.reg a) (crcReverse (s.reg a) s.acc s.st) 1

/-! ## CRCF -/

/-- CRCF: R342. -/
def execCrcf (a : Reg) (s : State) : Result := runCrcf parameters a s

/-! ## CRCR -/

/-- CRCR: R343. -/
def execCrcr (a : Reg) (s : State) : Result := runCrcr parameters a s

end Sys2Proof.Machine
end

