-- ==== Sys2Proof/Machine/Nop.lean ====
section
/-! DEFINITION. The no-operation instruction (49_nop_and_immediate.md). -/

namespace Sys2Proof.Machine

/-- NOP: Y and CT are draws, nothing else changes (R390). -/
def runNop (s : State) : Result :=
  .next (s.finish (Config.freeY s.draws) (Config.freeCT s.draws) 1)

/-! ## NOP -/

/-- NOP: R390. -/
def execNop (s : State) : Result := runNop s

end Sys2Proof.Machine
end

