-- ==== Sys2Proof/Machine/Prioritize.lean ====
section
/-! DEFINITION. Prioritize instructions, formats PRT1, PRT2, PRT3 and PRTNR (46_prioritize.md). -/

namespace Sys2Proof.Machine

/-- The index of the highest 1 of `t` below bit `m`. -/
def highestOne {k : Nat} (t : BitVec k) : Nat → Option Nat
  | 0 => none
  | m + 1 => if t.getLsbD m then some m else highestOne t m

/-- `prio_w` of R311, by `PRIORITY_CODE`. `draw` numbers the free code of "no bit set" that
`bit_index` leaves open. -/
def prioCode {k : Nat} (p : Params) (draw : Nat) (t : BitVec k) : BitVec k :=
  match p.priorityCode, highestOne t k with
  | .fromMsb, none => 0
  | .fromMsb, some m => BitVec.ofNat k (k - m)
  | .bitIndex, none => (Config.freeNoneCode draw).setWidth k
  | .bitIndex, some m => BitVec.ofNat k m

/-- R312 for a mask S, a source R and a destination; operand and mask from the same source are
refused (R316). Only the mask can be I. -/
def runPrioritize (p : Params) (mask src : Src) (dst : Dst) (w : Width) (s : State) : Result :=
  if mask = src then .refused .sameSource
  else
    let t := s.operand w src &&& ~~~s.operand w mask
    s.deliver p w dst (logicResult (prioCode p s.draws t) s.st) mask.instrWords

/-- Every PRT1 instruction (R310, R313 to R318). -/
def runPrt1 (p : Params) (dst : Prt1Dest) (src : Prt1Source) (w : Width) (a : Reg) (s : State) :
    Result :=
  runPrioritize p (.reg a) src.src (dst.dst a) w s

/-- Every PRT2 instruction (R310, R319 to R323). -/
def runPrt2 (p : Params) (mask : PrtMask) (dst : Prt2Dest) (w : Width) (a : Reg) (s : State) : Result :=
  runPrioritize p mask.src (.reg a) dst.dst w s

/-- Every PRT3 instruction (R310, R319 to R321, R324 to R326). -/
def runPrt3 (p : Params) (mask : PrtMask) (src : Prt3Source) (w : Width) (a : Reg) (s : State) :
    Result :=
  runPrioritize p mask.src (src.src a) (.reg a) w s

/-- Every PRTNR instruction (R310, R319 to R321, R327 to R329). -/
def runPrtnr (p : Params) (mask : PrtMask) (src : PrtnrSource) (dst : NrShortDest) (w : Width)
    (s : State) : Result :=
  runPrioritize p mask.src src.src dst.dst w s

/-! ## PRT1 -/

/-- PRT1 PR1A PRT1A: R312, R313, R317. -/
def execPrt1Pr1aPrt1a (w : Width) (a : Reg) (s : State) : Result :=
  runPrt1 parameters .pr1a .prt1a w a s

/-- PRT1 PR1A PRT1D: R312, R313, R318. -/
def execPrt1Pr1aPrt1d (w : Width) (a : Reg) (s : State) : Result :=
  runPrt1 parameters .pr1a .prt1d w a s

/-- PRT1 PR1Y PRT1A: R312, R314, R317. -/
def execPrt1Pr1yPrt1a (w : Width) (a : Reg) (s : State) : Result :=
  runPrt1 parameters .pr1y .prt1a w a s

/-- PRT1 PR1Y PRT1D: R312, R314, R318. -/
def execPrt1Pr1yPrt1d (w : Width) (a : Reg) (s : State) : Result :=
  runPrt1 parameters .pr1y .prt1d w a s

/-- PRT1 PR1R PRT1A: R312, R315, R317. -/
def execPrt1Pr1rPrt1a (w : Width) (a : Reg) (s : State) : Result :=
  runPrt1 parameters .pr1r .prt1a w a s

/-- PRT1 PR1R PRT1D: R312, R315, R318. -/
def execPrt1Pr1rPrt1d (w : Width) (a : Reg) (s : State) : Result :=
  runPrt1 parameters .pr1r .prt1d w a s

/-! ## PRT2 -/

/-- PRT2 PRA PR2A: R312, R319, R322. -/
def execPrt2PraPr2a (w : Width) (a : Reg) (s : State) : Result :=
  runPrt2 parameters .pra .pr2a w a s

/-- PRT2 PRA PR2Y: R312, R319, R323. -/
def execPrt2PraPr2y (w : Width) (a : Reg) (s : State) : Result :=
  runPrt2 parameters .pra .pr2y w a s

/-- PRT2 PRZ PR2A: R312, R320, R322. -/
def execPrt2PrzPr2a (w : Width) (a : Reg) (s : State) : Result :=
  runPrt2 parameters .prz .pr2a w a s

/-- PRT2 PRZ PR2Y: R312, R320, R323. -/
def execPrt2PrzPr2y (w : Width) (a : Reg) (s : State) : Result :=
  runPrt2 parameters .prz .pr2y w a s

/-- PRT2 PRI PR2A: R312, R321, R322. -/
def execPrt2PriPr2a (w : Width) (a : Reg) (imm : Word) (s : State) : Result :=
  runPrt2 parameters (.pri imm) .pr2a w a s

/-- PRT2 PRI PR2Y: R312, R321, R323. -/
def execPrt2PriPr2y (w : Width) (a : Reg) (imm : Word) (s : State) : Result :=
  runPrt2 parameters (.pri imm) .pr2y w a s

/-! ## PRT3 -/

/-- PRT3 PRA PR3R: R312, R319, R324. -/
def execPrt3PraPr3r (w : Width) (a : Reg) (s : State) : Result :=
  runPrt3 parameters .pra .pr3r w a s

/-- PRT3 PRA PR3A: R312, R319, R325. -/
def execPrt3PraPr3a (w : Width) (a : Reg) (s : State) : Result :=
  runPrt3 parameters .pra .pr3a w a s

/-- PRT3 PRA PR3D: R312, R319, R326. -/
def execPrt3PraPr3d (w : Width) (a : Reg) (s : State) : Result :=
  runPrt3 parameters .pra .pr3d w a s

/-- PRT3 PRZ PR3R: R312, R320, R324. -/
def execPrt3PrzPr3r (w : Width) (a : Reg) (s : State) : Result :=
  runPrt3 parameters .prz .pr3r w a s

/-- PRT3 PRZ PR3A: R312, R320, R325. -/
def execPrt3PrzPr3a (w : Width) (a : Reg) (s : State) : Result :=
  runPrt3 parameters .prz .pr3a w a s

/-- PRT3 PRZ PR3D: R312, R320, R326. -/
def execPrt3PrzPr3d (w : Width) (a : Reg) (s : State) : Result :=
  runPrt3 parameters .prz .pr3d w a s

/-- PRT3 PRI PR3R: R312, R321, R324. -/
def execPrt3PriPr3r (w : Width) (a : Reg) (imm : Word) (s : State) : Result :=
  runPrt3 parameters (.pri imm) .pr3r w a s

/-- PRT3 PRI PR3A: R312, R321, R325. -/
def execPrt3PriPr3a (w : Width) (a : Reg) (imm : Word) (s : State) : Result :=
  runPrt3 parameters (.pri imm) .pr3a w a s

/-- PRT3 PRI PR3D: R312, R321, R326. -/
def execPrt3PriPr3d (w : Width) (a : Reg) (imm : Word) (s : State) : Result :=
  runPrt3 parameters (.pri imm) .pr3d w a s

/-! ## PRTNR -/

/-- PRTNR PRA PRTA NRY: R312, R319, R327, R144, R329. -/
def execPrtnrPraPrtaNry (w : Width) (s : State) : Result := runPrtnr parameters .pra .prta .nry w s

/-- PRTNR PRA PRTA NRA: R312, R319, R327, R145, R329. -/
def execPrtnrPraPrtaNra (w : Width) (s : State) : Result := runPrtnr parameters .pra .prta .nra w s

/-- PRTNR PRA PRTD NRY: R312, R319, R328, R144, R329. -/
def execPrtnrPraPrtdNry (w : Width) (s : State) : Result := runPrtnr parameters .pra .prtd .nry w s

/-- PRTNR PRA PRTD NRA: R312, R319, R328, R145, R329. -/
def execPrtnrPraPrtdNra (w : Width) (s : State) : Result := runPrtnr parameters .pra .prtd .nra w s

/-- PRTNR PRZ PRTA NRY: R312, R320, R327, R144, R329. -/
def execPrtnrPrzPrtaNry (w : Width) (s : State) : Result := runPrtnr parameters .prz .prta .nry w s

/-- PRTNR PRZ PRTA NRA: R312, R320, R327, R145, R329. -/
def execPrtnrPrzPrtaNra (w : Width) (s : State) : Result := runPrtnr parameters .prz .prta .nra w s

/-- PRTNR PRZ PRTD NRY: R312, R320, R328, R144, R329. -/
def execPrtnrPrzPrtdNry (w : Width) (s : State) : Result := runPrtnr parameters .prz .prtd .nry w s

/-- PRTNR PRZ PRTD NRA: R312, R320, R328, R145, R329. -/
def execPrtnrPrzPrtdNra (w : Width) (s : State) : Result := runPrtnr parameters .prz .prtd .nra w s

/-- PRTNR PRI PRTA NRY: R312, R321, R327, R144, R329. -/
def execPrtnrPriPrtaNry (w : Width) (imm : Word) (s : State) : Result :=
  runPrtnr parameters (.pri imm) .prta .nry w s

/-- PRTNR PRI PRTA NRA: R312, R321, R327, R145, R329. -/
def execPrtnrPriPrtaNra (w : Width) (imm : Word) (s : State) : Result :=
  runPrtnr parameters (.pri imm) .prta .nra w s

/-- PRTNR PRI PRTD NRY: R312, R321, R328, R144, R329. -/
def execPrtnrPriPrtdNry (w : Width) (imm : Word) (s : State) : Result :=
  runPrtnr parameters (.pri imm) .prtd .nry w s

/-- PRTNR PRI PRTD NRA: R312, R321, R328, R145, R329. -/
def execPrtnrPriPrtdNra (w : Width) (imm : Word) (s : State) : Result :=
  runPrtnr parameters (.pri imm) .prtd .nra w s

end Sys2Proof.Machine
end

