-- ==== Sys2Proof/Machine/Rotate.lean ====
section
/-! DEFINITION. Rotates by n bits, formats ROTR1, ROTR2 and ROTNR (44_rotate.md). -/

namespace Sys2Proof.Machine

/-- `rotl_w` of R8: a left rotate by n modulo the width (R271). -/
def rotl {k : Nat} (v : BitVec k) (n : BitNo) : BitVec k := v.rotateLeft n.toNat

/-- R272 for a source and a destination. -/
def runRotate (p : Params) (src : Src) (dst : Dst) (w : Width) (n : BitNo) (s : State) : Result :=
  s.deliver p w dst (logicResult (rotl (s.operand w src) n) s.st) 1

/-- Every ROTR1 instruction (R270, R273 to R275). -/
def runRotr1 (p : Params) (form : Rotr1Form) (w : Width) (n : BitNo) (a : Reg) (s : State) : Result :=
  runRotate p (.reg a) (form.dst a) w n s

/-- Every ROTR2 instruction (R270, R276, R277). -/
def runRotr2 (p : Params) (form : Rotr2Form) (w : Width) (n : BitNo) (a : Reg) (s : State) : Result :=
  runRotate p form.src (.reg a) w n s

/-- Every ROTNR instruction (R270, R278 to R281). -/
def runRotnr (p : Params) (form : RotnrForm) (w : Width) (n : BitNo) (s : State) : Result :=
  runRotate p form.src form.dst w n s

/-! ## ROTR1 -/

/-- ROTR1 RTRA: R273. -/
def execRotr1Rtra (w : Width) (n : BitNo) (a : Reg) (s : State) : Result :=
  runRotr1 parameters .rtra w n a s

/-- ROTR1 RTRY: R274. -/
def execRotr1Rtry (w : Width) (n : BitNo) (a : Reg) (s : State) : Result :=
  runRotr1 parameters .rtry w n a s

/-- ROTR1 RTRR: R275. -/
def execRotr1Rtrr (w : Width) (n : BitNo) (a : Reg) (s : State) : Result :=
  runRotr1 parameters .rtrr w n a s

/-! ## ROTR2 -/

/-- ROTR2 RTAR: R276. -/
def execRotr2Rtar (w : Width) (n : BitNo) (a : Reg) (s : State) : Result :=
  runRotr2 parameters .rtar w n a s

/-- ROTR2 RTDR: R277. -/
def execRotr2Rtdr (w : Width) (n : BitNo) (a : Reg) (s : State) : Result :=
  runRotr2 parameters .rtdr w n a s

/-! ## ROTNR -/

/-- ROTNR RTDY: R278. -/
def execRotnrRtdy (w : Width) (n : BitNo) (s : State) : Result := runRotnr parameters .rtdy w n s

/-- ROTNR RTDA: R279. -/
def execRotnrRtda (w : Width) (n : BitNo) (s : State) : Result := runRotnr parameters .rtda w n s

/-- ROTNR RTAY: R280. -/
def execRotnrRtay (w : Width) (n : BitNo) (s : State) : Result := runRotnr parameters .rtay w n s

/-- ROTNR RTAA: R281. -/
def execRotnrRtaa (w : Width) (n : BitNo) (s : State) : Result := runRotnr parameters .rtaa w n s

end Sys2Proof.Machine
end

