-- ==== Sys2Proof/Machine/RotateMask.lean ====
section
/-! DEFINITION. Rotate and compare, rotate and merge, formats ROTC and ROTM
(45_rotate_compare_merge.md). -/

namespace Sys2Proof.Machine

/-- The masked bitwise difference of R291: a mask bit of 1 removes its position. -/
def compareMasked {k : Nat} (u r m : BitVec k) : BitVec k := (u &&& ~~~m) ^^^ (r &&& ~~~m)

/-- The merge of R297: a mask bit of 1 takes the bit of `u`, a 0 the bit of `r`. -/
def mergeMasked {k : Nat} (u r m : BitVec k) : BitVec k := (u &&& m) ||| (r &&& ~~~m)

/-- Every ROTC instruction (R290, R291): no register is written. -/
def runRotc (p : Params) (form : RotcForm) (w : Width) (n : BitNo) (a : Reg) (s : State) : Result :=
  let u := rotl (s.operand w (form.rotated a)) n
  let r := s.operand w (form.fixed a)
  let m := s.operand w form.mask
  s.deliver p w .y (logicResult (compareMasked u r m) s.st) form.mask.instrWords

/-- Every ROTM instruction (R296, R297). -/
def runRotm (p : Params) (form : RotmForm) (w : Width) (n : BitNo) (a : Reg) (s : State) : Result :=
  let u := rotl (s.operand w (form.rotated a)) n
  let r := s.operand w (form.fixed a)
  let m := s.operand w (form.mask a)
  s.deliver p w (form.dst a) (logicResult (mergeMasked u r m) s.st) (form.mask a).instrWords

/-! ## ROTC -/

/-- ROTC CDAI: R292. -/
def execRotcCdai (w : Width) (n : BitNo) (a : Reg) (imm : Word) (s : State) : Result :=
  runRotc parameters (.cdai imm) w n a s

/-- ROTC CDRI: R293. -/
def execRotcCdri (w : Width) (n : BitNo) (a : Reg) (imm : Word) (s : State) : Result :=
  runRotc parameters (.cdri imm) w n a s

/-- ROTC CDRA: R294. -/
def execRotcCdra (w : Width) (n : BitNo) (a : Reg) (s : State) : Result :=
  runRotc parameters .cdra w n a s

/-- ROTC CRAI: R295. -/
def execRotcCrai (w : Width) (n : BitNo) (a : Reg) (imm : Word) (s : State) : Result :=
  runRotc parameters (.crai imm) w n a s

/-! ## ROTM -/

/-- ROTM MDAI: R298. -/
def execRotmMdai (w : Width) (n : BitNo) (a : Reg) (imm : Word) (s : State) : Result :=
  runRotm parameters (.mdai imm) w n a s

/-- ROTM MDAR: R299. -/
def execRotmMdar (w : Width) (n : BitNo) (a : Reg) (s : State) : Result :=
  runRotm parameters .mdar w n a s

/-- ROTM MDRI: R300. -/
def execRotmMdri (w : Width) (n : BitNo) (a : Reg) (imm : Word) (s : State) : Result :=
  runRotm parameters (.mdri imm) w n a s

/-- ROTM MDRA: R301. -/
def execRotmMdra (w : Width) (n : BitNo) (a : Reg) (s : State) : Result :=
  runRotm parameters .mdra w n a s

/-- ROTM MARI: R302. -/
def execRotmMari (w : Width) (n : BitNo) (a : Reg) (imm : Word) (s : State) : Result :=
  runRotm parameters (.mari imm) w n a s

/-- ROTM MRAI: R303. -/
def execRotmMrai (w : Width) (n : BitNo) (a : Reg) (imm : Word) (s : State) : Result :=
  runRotm parameters (.mrai imm) w n a s

end Sys2Proof.Machine
end

