-- ==== Sys2Proof/Machine/Shift.lean ====
section
/-! DEFINITION. Single-bit shifts, formats SHFTR and SHFTNR (42_shift.md). -/

namespace Sys2Proof.Machine

/-- The bit shifted in, X, read from the flags before the instruction (R204 to R211). -/
def shiftIn (op : ShiftOp) (st : Status) : Bool :=
  match op with
  | .shupz | .shdnz => false
  | .shup1 | .shdn1 => true
  | .shupl | .shdnl => st.l
  | .shdnc => st.c
  | .shdnov => st.n ^^ st.ovr

/-- Whether an operation shifts up, toward the most significant end (R202). -/
def shiftsUp : ShiftOp → Bool
  | .shupz | .shup1 | .shupl => true
  | .shdnz | .shdn1 | .shdnl | .shdnc | .shdnov => false

/-- `s[w-2:0] . X` (R202). -/
def shiftUp {k : Nat} (s : BitVec k) (x : Bool) : BitVec k :=
  s <<< 1 ||| (BitVec.ofBool x).setWidth k

/-- `X . s[w-1:1]` (R202). -/
def shiftDown {k : Nat} (s : BitVec k) (x : Bool) : BitVec k :=
  s >>> 1 ||| (BitVec.ofBool x).setWidth k <<< (k - 1)

/-- The shift operations of R204 to R211 on the source value `s`. -/
def shiftOp {k : Nat} (op : ShiftOp) (s : BitVec k) (st : Status) : AluResult k :=
  let x := shiftIn op st
  if shiftsUp op then
    let r := shiftUp s x
    ⟨r, shiftFlags r s.msb st⟩
  else
    let r := shiftDown s x
    ⟨r, shiftFlags r (s.getLsbD 0) st⟩

/-- Y[15:8] of a byte-mode shift by `BYTE_Y_UPPER` (R202): a draw, or the cells of Табл. 10.15 for the
low byte `s` of the source. -/
def shiftYHigh (p : Params) (op : ShiftOp) (s : BitVec 8) (st : Status) (draw : Nat) : BitVec 8 :=
  match p.byteYUpper with
  | .draw => Config.freeYHigh draw
  | .asTabled =>
    if shiftsUp op then s.extractLsb' 1 7 ++ s.extractLsb' 7 1
    else BitVec.ofBool (shiftIn op st) ++ s.extractLsb' 1 7

/-- R202 for a source and a destination. -/
def runShift (p : Params) (op : ShiftOp) (src : Src) (dst : Dst) (w : Width) (s : State) : Result :=
  .next (s.complete p w dst (shiftOp op (s.operand w src) s.st)
    (shiftYHigh p op (s.operand .byte src) s.st s.draws) 1)

/-- Every SHFTR instruction (R200, R202). -/
def runShftr (p : Params) (form : ShftrForm) (op : ShiftOp) (w : Width) (a : Reg) (s : State) :
    Result :=
  runShift p op (form.src a) (.reg a) w s

/-- Every SHFTNR instruction (R201, R202). -/
def runShftnr (p : Params) (src : ShftnrSource) (op : ShiftOp) (dst : NrShortDest) (w : Width)
    (s : State) : Result :=
  runShift p op src.src dst.dst w s

/-! ## SHFTR -/

/-- SHFTR SHRR SHUPZ: R204, R212. -/
def execShftrShrrShupz (w : Width) (a : Reg) (s : State) : Result :=
  runShftr parameters .shrr .shupz w a s

/-- SHFTR SHDR SHUPZ: R204, R213. -/
def execShftrShdrShupz (w : Width) (a : Reg) (s : State) : Result :=
  runShftr parameters .shdr .shupz w a s

/-- SHFTR SHRR SHUP1: R205, R212. -/
def execShftrShrrShup1 (w : Width) (a : Reg) (s : State) : Result :=
  runShftr parameters .shrr .shup1 w a s

/-- SHFTR SHDR SHUP1: R205, R213. -/
def execShftrShdrShup1 (w : Width) (a : Reg) (s : State) : Result :=
  runShftr parameters .shdr .shup1 w a s

/-- SHFTR SHRR SHUPL: R206, R212. -/
def execShftrShrrShupl (w : Width) (a : Reg) (s : State) : Result :=
  runShftr parameters .shrr .shupl w a s

/-- SHFTR SHDR SHUPL: R206, R213. -/
def execShftrShdrShupl (w : Width) (a : Reg) (s : State) : Result :=
  runShftr parameters .shdr .shupl w a s

/-- SHFTR SHRR SHDNZ: R207, R212. -/
def execShftrShrrShdnz (w : Width) (a : Reg) (s : State) : Result :=
  runShftr parameters .shrr .shdnz w a s

/-- SHFTR SHDR SHDNZ: R207, R213. -/
def execShftrShdrShdnz (w : Width) (a : Reg) (s : State) : Result :=
  runShftr parameters .shdr .shdnz w a s

/-- SHFTR SHRR SHDN1: R208, R212. -/
def execShftrShrrShdn1 (w : Width) (a : Reg) (s : State) : Result :=
  runShftr parameters .shrr .shdn1 w a s

/-- SHFTR SHDR SHDN1: R208, R213. -/
def execShftrShdrShdn1 (w : Width) (a : Reg) (s : State) : Result :=
  runShftr parameters .shdr .shdn1 w a s

/-- SHFTR SHRR SHDNL: R209, R212. -/
def execShftrShrrShdnl (w : Width) (a : Reg) (s : State) : Result :=
  runShftr parameters .shrr .shdnl w a s

/-- SHFTR SHDR SHDNL: R209, R213. -/
def execShftrShdrShdnl (w : Width) (a : Reg) (s : State) : Result :=
  runShftr parameters .shdr .shdnl w a s

/-- SHFTR SHRR SHDNC: R210, R212. -/
def execShftrShrrShdnc (w : Width) (a : Reg) (s : State) : Result :=
  runShftr parameters .shrr .shdnc w a s

/-- SHFTR SHDR SHDNC: R210, R213. -/
def execShftrShdrShdnc (w : Width) (a : Reg) (s : State) : Result :=
  runShftr parameters .shdr .shdnc w a s

/-- SHFTR SHRR SHDNOV: R211, R212. -/
def execShftrShrrShdnov (w : Width) (a : Reg) (s : State) : Result :=
  runShftr parameters .shrr .shdnov w a s

/-- SHFTR SHDR SHDNOV: R211, R213. -/
def execShftrShdrShdnov (w : Width) (a : Reg) (s : State) : Result :=
  runShftr parameters .shdr .shdnov w a s

/-! ## SHFTNR -/

/-- SHFTNR SHA SHUPZ NRY: R204, R214, R216. -/
def execShftnrShaShupzNry (w : Width) (s : State) : Result :=
  runShftnr parameters .sha .shupz .nry w s

/-- SHFTNR SHA SHUPZ NRA: R204, R214, R216. -/
def execShftnrShaShupzNra (w : Width) (s : State) : Result :=
  runShftnr parameters .sha .shupz .nra w s

/-- SHFTNR SHD SHUPZ NRY: R204, R215, R216. -/
def execShftnrShdShupzNry (w : Width) (s : State) : Result :=
  runShftnr parameters .shd .shupz .nry w s

/-- SHFTNR SHD SHUPZ NRA: R204, R215, R216. -/
def execShftnrShdShupzNra (w : Width) (s : State) : Result :=
  runShftnr parameters .shd .shupz .nra w s

/-- SHFTNR SHA SHUP1 NRY: R205, R214, R216. -/
def execShftnrShaShup1Nry (w : Width) (s : State) : Result :=
  runShftnr parameters .sha .shup1 .nry w s

/-- SHFTNR SHA SHUP1 NRA: R205, R214, R216. -/
def execShftnrShaShup1Nra (w : Width) (s : State) : Result :=
  runShftnr parameters .sha .shup1 .nra w s

/-- SHFTNR SHD SHUP1 NRY: R205, R215, R216. -/
def execShftnrShdShup1Nry (w : Width) (s : State) : Result :=
  runShftnr parameters .shd .shup1 .nry w s

/-- SHFTNR SHD SHUP1 NRA: R205, R215, R216. -/
def execShftnrShdShup1Nra (w : Width) (s : State) : Result :=
  runShftnr parameters .shd .shup1 .nra w s

/-- SHFTNR SHA SHUPL NRY: R206, R214, R216. -/
def execShftnrShaShuplNry (w : Width) (s : State) : Result :=
  runShftnr parameters .sha .shupl .nry w s

/-- SHFTNR SHA SHUPL NRA: R206, R214, R216. -/
def execShftnrShaShuplNra (w : Width) (s : State) : Result :=
  runShftnr parameters .sha .shupl .nra w s

/-- SHFTNR SHD SHUPL NRY: R206, R215, R216. -/
def execShftnrShdShuplNry (w : Width) (s : State) : Result :=
  runShftnr parameters .shd .shupl .nry w s

/-- SHFTNR SHD SHUPL NRA: R206, R215, R216. -/
def execShftnrShdShuplNra (w : Width) (s : State) : Result :=
  runShftnr parameters .shd .shupl .nra w s

/-- SHFTNR SHA SHDNZ NRY: R207, R214, R216. -/
def execShftnrShaShdnzNry (w : Width) (s : State) : Result :=
  runShftnr parameters .sha .shdnz .nry w s

/-- SHFTNR SHA SHDNZ NRA: R207, R214, R216. -/
def execShftnrShaShdnzNra (w : Width) (s : State) : Result :=
  runShftnr parameters .sha .shdnz .nra w s

/-- SHFTNR SHD SHDNZ NRY: R207, R215, R216. -/
def execShftnrShdShdnzNry (w : Width) (s : State) : Result :=
  runShftnr parameters .shd .shdnz .nry w s

/-- SHFTNR SHD SHDNZ NRA: R207, R215, R216. -/
def execShftnrShdShdnzNra (w : Width) (s : State) : Result :=
  runShftnr parameters .shd .shdnz .nra w s

/-- SHFTNR SHA SHDN1 NRY: R208, R214, R216. -/
def execShftnrShaShdn1Nry (w : Width) (s : State) : Result :=
  runShftnr parameters .sha .shdn1 .nry w s

/-- SHFTNR SHA SHDN1 NRA: R208, R214, R216. -/
def execShftnrShaShdn1Nra (w : Width) (s : State) : Result :=
  runShftnr parameters .sha .shdn1 .nra w s

/-- SHFTNR SHD SHDN1 NRY: R208, R215, R216. -/
def execShftnrShdShdn1Nry (w : Width) (s : State) : Result :=
  runShftnr parameters .shd .shdn1 .nry w s

/-- SHFTNR SHD SHDN1 NRA: R208, R215, R216. -/
def execShftnrShdShdn1Nra (w : Width) (s : State) : Result :=
  runShftnr parameters .shd .shdn1 .nra w s

/-- SHFTNR SHA SHDNL NRY: R209, R214, R216. -/
def execShftnrShaShdnlNry (w : Width) (s : State) : Result :=
  runShftnr parameters .sha .shdnl .nry w s

/-- SHFTNR SHA SHDNL NRA: R209, R214, R216. -/
def execShftnrShaShdnlNra (w : Width) (s : State) : Result :=
  runShftnr parameters .sha .shdnl .nra w s

/-- SHFTNR SHD SHDNL NRY: R209, R215, R216. -/
def execShftnrShdShdnlNry (w : Width) (s : State) : Result :=
  runShftnr parameters .shd .shdnl .nry w s

/-- SHFTNR SHD SHDNL NRA: R209, R215, R216. -/
def execShftnrShdShdnlNra (w : Width) (s : State) : Result :=
  runShftnr parameters .shd .shdnl .nra w s

/-- SHFTNR SHA SHDNC NRY: R210, R214, R216. -/
def execShftnrShaShdncNry (w : Width) (s : State) : Result :=
  runShftnr parameters .sha .shdnc .nry w s

/-- SHFTNR SHA SHDNC NRA: R210, R214, R216. -/
def execShftnrShaShdncNra (w : Width) (s : State) : Result :=
  runShftnr parameters .sha .shdnc .nra w s

/-- SHFTNR SHD SHDNC NRY: R210, R215, R216. -/
def execShftnrShdShdncNry (w : Width) (s : State) : Result :=
  runShftnr parameters .shd .shdnc .nry w s

/-- SHFTNR SHD SHDNC NRA: R210, R215, R216. -/
def execShftnrShdShdncNra (w : Width) (s : State) : Result :=
  runShftnr parameters .shd .shdnc .nra w s

/-- SHFTNR SHA SHDNOV NRY: R211, R214, R216. -/
def execShftnrShaShdnovNry (w : Width) (s : State) : Result :=
  runShftnr parameters .sha .shdnov .nry w s

/-- SHFTNR SHA SHDNOV NRA: R211, R214, R216. -/
def execShftnrShaShdnovNra (w : Width) (s : State) : Result :=
  runShftnr parameters .sha .shdnov .nra w s

/-- SHFTNR SHD SHDNOV NRY: R211, R215, R216. -/
def execShftnrShdShdnovNry (w : Width) (s : State) : Result :=
  runShftnr parameters .shd .shdnov .nry w s

/-- SHFTNR SHD SHDNOV NRA: R211, R215, R216. -/
def execShftnrShdShdnovNra (w : Width) (s : State) : Result :=
  runShftnr parameters .shd .shdnov .nra w s

end Sys2Proof.Machine
end

