-- ==== Sys2Proof/Machine/Single.lean ====
section
/-! DEFINITION. Single-operand instructions, formats SOR and SONR (40_single_operand.md). -/

namespace Sys2Proof.Machine

/-- The operations of R124 to R127 on the source value `s`. -/
def singleOp {k : Nat} (op : SingleOp) (s : BitVec k) (st : Status) : AluResult k :=
  match op with
  | .move => logicResult s st
  | .comp => logicResult (~~~s) st
  | .inc => arithResult (addW s 0 true) st
  | .neg => arithResult (addW (~~~s) 0 true) st

/-- R122 for a source and a destination. -/
def runSingle (p : Params) (op : SingleOp) (src : Src) (dst : Dst) (w : Width) (s : State) : Result :=
  s.deliver p w dst (singleOp op (s.operand w src) s.st) src.instrWords

/-- Every SOR instruction (R120, R122). -/
def runSor (p : Params) (op : SingleOp) (form : SorForm) (w : Width) (a : Reg) (s : State) : Result :=
  runSingle p op (form.src a) (form.dst a) w s

/-- Every SONR instruction (R121, R122). -/
def runSonr (p : Params) (op : SingleOp) (src : SonrSource) (dst : NrDest) (w : Width) (s : State) :
    Result :=
  runSingle p op src.src dst.dst w s

/-! ## SOR -/

/-- SOR MOVE SORA: R124, R128. -/
def execSorMoveSora (w : Width) (a : Reg) (s : State) : Result :=
  runSor parameters .move .sora w a s

/-- SOR MOVE SORY: R124, R129. -/
def execSorMoveSory (w : Width) (a : Reg) (s : State) : Result :=
  runSor parameters .move .sory w a s

/-- SOR MOVE SORS: R124, R130. -/
def execSorMoveSors (w : Width) (a : Reg) (s : State) : Result :=
  runSor parameters .move .sors w a s

/-- SOR MOVE SOAR: R124, R131. -/
def execSorMoveSoar (w : Width) (a : Reg) (s : State) : Result :=
  runSor parameters .move .soar w a s

/-- SOR MOVE SODR: R124, R132. -/
def execSorMoveSodr (w : Width) (a : Reg) (s : State) : Result :=
  runSor parameters .move .sodr w a s

/-- SOR MOVE SOIR: R124, R133. -/
def execSorMoveSoir (w : Width) (a : Reg) (imm : Word) (s : State) : Result :=
  runSor parameters .move (.soir imm) w a s

/-- SOR MOVE SOZR: R124, R134. -/
def execSorMoveSozr (w : Width) (a : Reg) (s : State) : Result :=
  runSor parameters .move .sozr w a s

/-- SOR MOVE SOZER: R124, R135. -/
def execSorMoveSozer (w : Width) (a : Reg) (s : State) : Result :=
  runSor parameters .move .sozer w a s

/-- SOR MOVE SOSER: R124, R136. -/
def execSorMoveSoser (w : Width) (a : Reg) (s : State) : Result :=
  runSor parameters .move .soser w a s

/-- SOR MOVE SORR: R124, R137. -/
def execSorMoveSorr (w : Width) (a : Reg) (s : State) : Result :=
  runSor parameters .move .sorr w a s

/-- SOR COMP SORA: R125, R128. -/
def execSorCompSora (w : Width) (a : Reg) (s : State) : Result :=
  runSor parameters .comp .sora w a s

/-- SOR COMP SORY: R125, R129. -/
def execSorCompSory (w : Width) (a : Reg) (s : State) : Result :=
  runSor parameters .comp .sory w a s

/-- SOR COMP SORS: R125, R130. -/
def execSorCompSors (w : Width) (a : Reg) (s : State) : Result :=
  runSor parameters .comp .sors w a s

/-- SOR COMP SOAR: R125, R131. -/
def execSorCompSoar (w : Width) (a : Reg) (s : State) : Result :=
  runSor parameters .comp .soar w a s

/-- SOR COMP SODR: R125, R132. -/
def execSorCompSodr (w : Width) (a : Reg) (s : State) : Result :=
  runSor parameters .comp .sodr w a s

/-- SOR COMP SOIR: R125, R133. -/
def execSorCompSoir (w : Width) (a : Reg) (imm : Word) (s : State) : Result :=
  runSor parameters .comp (.soir imm) w a s

/-- SOR COMP SOZR: R125, R134. -/
def execSorCompSozr (w : Width) (a : Reg) (s : State) : Result :=
  runSor parameters .comp .sozr w a s

/-- SOR COMP SOZER: R125, R135. -/
def execSorCompSozer (w : Width) (a : Reg) (s : State) : Result :=
  runSor parameters .comp .sozer w a s

/-- SOR COMP SOSER: R125, R136. -/
def execSorCompSoser (w : Width) (a : Reg) (s : State) : Result :=
  runSor parameters .comp .soser w a s

/-- SOR COMP SORR: R125, R137. -/
def execSorCompSorr (w : Width) (a : Reg) (s : State) : Result :=
  runSor parameters .comp .sorr w a s

/-- SOR INC SORA: R126, R128. -/
def execSorIncSora (w : Width) (a : Reg) (s : State) : Result := runSor parameters .inc .sora w a s

/-- SOR INC SORY: R126, R129. -/
def execSorIncSory (w : Width) (a : Reg) (s : State) : Result := runSor parameters .inc .sory w a s

/-- SOR INC SORS: R126, R130. -/
def execSorIncSors (w : Width) (a : Reg) (s : State) : Result := runSor parameters .inc .sors w a s

/-- SOR INC SOAR: R126, R131. -/
def execSorIncSoar (w : Width) (a : Reg) (s : State) : Result := runSor parameters .inc .soar w a s

/-- SOR INC SODR: R126, R132. -/
def execSorIncSodr (w : Width) (a : Reg) (s : State) : Result := runSor parameters .inc .sodr w a s

/-- SOR INC SOIR: R126, R133. -/
def execSorIncSoir (w : Width) (a : Reg) (imm : Word) (s : State) : Result :=
  runSor parameters .inc (.soir imm) w a s

/-- SOR INC SOZR: R126, R134. -/
def execSorIncSozr (w : Width) (a : Reg) (s : State) : Result := runSor parameters .inc .sozr w a s

/-- SOR INC SOZER: R126, R135. -/
def execSorIncSozer (w : Width) (a : Reg) (s : State) : Result :=
  runSor parameters .inc .sozer w a s

/-- SOR INC SOSER: R126, R136. -/
def execSorIncSoser (w : Width) (a : Reg) (s : State) : Result :=
  runSor parameters .inc .soser w a s

/-- SOR INC SORR: R126, R137. -/
def execSorIncSorr (w : Width) (a : Reg) (s : State) : Result := runSor parameters .inc .sorr w a s

/-- SOR NEG SORA: R127, R128. -/
def execSorNegSora (w : Width) (a : Reg) (s : State) : Result := runSor parameters .neg .sora w a s

/-- SOR NEG SORY: R127, R129. -/
def execSorNegSory (w : Width) (a : Reg) (s : State) : Result := runSor parameters .neg .sory w a s

/-- SOR NEG SORS: R127, R130. -/
def execSorNegSors (w : Width) (a : Reg) (s : State) : Result := runSor parameters .neg .sors w a s

/-- SOR NEG SOAR: R127, R131. -/
def execSorNegSoar (w : Width) (a : Reg) (s : State) : Result := runSor parameters .neg .soar w a s

/-- SOR NEG SODR: R127, R132. -/
def execSorNegSodr (w : Width) (a : Reg) (s : State) : Result := runSor parameters .neg .sodr w a s

/-- SOR NEG SOIR: R127, R133. -/
def execSorNegSoir (w : Width) (a : Reg) (imm : Word) (s : State) : Result :=
  runSor parameters .neg (.soir imm) w a s

/-- SOR NEG SOZR: R127, R134. -/
def execSorNegSozr (w : Width) (a : Reg) (s : State) : Result := runSor parameters .neg .sozr w a s

/-- SOR NEG SOZER: R127, R135. -/
def execSorNegSozer (w : Width) (a : Reg) (s : State) : Result :=
  runSor parameters .neg .sozer w a s

/-- SOR NEG SOSER: R127, R136. -/
def execSorNegSoser (w : Width) (a : Reg) (s : State) : Result :=
  runSor parameters .neg .soser w a s

/-- SOR NEG SORR: R127, R137. -/
def execSorNegSorr (w : Width) (a : Reg) (s : State) : Result := runSor parameters .neg .sorr w a s

/-! ## SONR -/

/-- SONR MOVE SOA NRY: R124, R138, R144. -/
def execSonrMoveSoaNry (w : Width) (s : State) : Result := runSonr parameters .move .soa .nry w s

/-- SONR MOVE SOA NRA: R124, R138, R145. -/
def execSonrMoveSoaNra (w : Width) (s : State) : Result := runSonr parameters .move .soa .nra w s

/-- SONR MOVE SOA NRS: R124, R138, R146. -/
def execSonrMoveSoaNrs (w : Width) (s : State) : Result := runSonr parameters .move .soa .nrs w s

/-- SONR MOVE SOA NRAS: R124, R138, R147. -/
def execSonrMoveSoaNras (w : Width) (s : State) : Result := runSonr parameters .move .soa .nras w s

/-- SONR MOVE SOD NRY: R124, R139, R144. -/
def execSonrMoveSodNry (w : Width) (s : State) : Result := runSonr parameters .move .sod .nry w s

/-- SONR MOVE SOD NRA: R124, R139, R145. -/
def execSonrMoveSodNra (w : Width) (s : State) : Result := runSonr parameters .move .sod .nra w s

/-- SONR MOVE SOD NRS: R124, R139, R146. -/
def execSonrMoveSodNrs (w : Width) (s : State) : Result := runSonr parameters .move .sod .nrs w s

/-- SONR MOVE SOD NRAS: R124, R139, R147. -/
def execSonrMoveSodNras (w : Width) (s : State) : Result := runSonr parameters .move .sod .nras w s

/-- SONR MOVE SOI NRY: R124, R140, R144. -/
def execSonrMoveSoiNry (w : Width) (imm : Word) (s : State) : Result :=
  runSonr parameters .move (.soi imm) .nry w s

/-- SONR MOVE SOI NRA: R124, R140, R145. -/
def execSonrMoveSoiNra (w : Width) (imm : Word) (s : State) : Result :=
  runSonr parameters .move (.soi imm) .nra w s

/-- SONR MOVE SOI NRS: R124, R140, R146. -/
def execSonrMoveSoiNrs (w : Width) (imm : Word) (s : State) : Result :=
  runSonr parameters .move (.soi imm) .nrs w s

/-- SONR MOVE SOI NRAS: R124, R140, R147. -/
def execSonrMoveSoiNras (w : Width) (imm : Word) (s : State) : Result :=
  runSonr parameters .move (.soi imm) .nras w s

/-- SONR MOVE SOZ NRY: R124, R141, R144. -/
def execSonrMoveSozNry (w : Width) (s : State) : Result := runSonr parameters .move .soz .nry w s

/-- SONR MOVE SOZ NRA: R124, R141, R145. -/
def execSonrMoveSozNra (w : Width) (s : State) : Result := runSonr parameters .move .soz .nra w s

/-- SONR MOVE SOZ NRS: R124, R141, R146. -/
def execSonrMoveSozNrs (w : Width) (s : State) : Result := runSonr parameters .move .soz .nrs w s

/-- SONR MOVE SOZ NRAS: R124, R141, R147. -/
def execSonrMoveSozNras (w : Width) (s : State) : Result := runSonr parameters .move .soz .nras w s

/-- SONR MOVE SOZE NRY: R124, R142, R144. -/
def execSonrMoveSozeNry (w : Width) (s : State) : Result := runSonr parameters .move .soze .nry w s

/-- SONR MOVE SOZE NRA: R124, R142, R145. -/
def execSonrMoveSozeNra (w : Width) (s : State) : Result := runSonr parameters .move .soze .nra w s

/-- SONR MOVE SOZE NRS: R124, R142, R146. -/
def execSonrMoveSozeNrs (w : Width) (s : State) : Result := runSonr parameters .move .soze .nrs w s

/-- SONR MOVE SOZE NRAS: R124, R142, R147. -/
def execSonrMoveSozeNras (w : Width) (s : State) : Result :=
  runSonr parameters .move .soze .nras w s

/-- SONR MOVE SOSE NRY: R124, R143, R144. -/
def execSonrMoveSoseNry (w : Width) (s : State) : Result := runSonr parameters .move .sose .nry w s

/-- SONR MOVE SOSE NRA: R124, R143, R145. -/
def execSonrMoveSoseNra (w : Width) (s : State) : Result := runSonr parameters .move .sose .nra w s

/-- SONR MOVE SOSE NRS: R124, R143, R146. -/
def execSonrMoveSoseNrs (w : Width) (s : State) : Result := runSonr parameters .move .sose .nrs w s

/-- SONR MOVE SOSE NRAS: R124, R143, R147. -/
def execSonrMoveSoseNras (w : Width) (s : State) : Result :=
  runSonr parameters .move .sose .nras w s

/-- SONR COMP SOA NRY: R125, R138, R144. -/
def execSonrCompSoaNry (w : Width) (s : State) : Result := runSonr parameters .comp .soa .nry w s

/-- SONR COMP SOA NRA: R125, R138, R145. -/
def execSonrCompSoaNra (w : Width) (s : State) : Result := runSonr parameters .comp .soa .nra w s

/-- SONR COMP SOA NRS: R125, R138, R146. -/
def execSonrCompSoaNrs (w : Width) (s : State) : Result := runSonr parameters .comp .soa .nrs w s

/-- SONR COMP SOA NRAS: R125, R138, R147. -/
def execSonrCompSoaNras (w : Width) (s : State) : Result := runSonr parameters .comp .soa .nras w s

/-- SONR COMP SOD NRY: R125, R139, R144. -/
def execSonrCompSodNry (w : Width) (s : State) : Result := runSonr parameters .comp .sod .nry w s

/-- SONR COMP SOD NRA: R125, R139, R145. -/
def execSonrCompSodNra (w : Width) (s : State) : Result := runSonr parameters .comp .sod .nra w s

/-- SONR COMP SOD NRS: R125, R139, R146. -/
def execSonrCompSodNrs (w : Width) (s : State) : Result := runSonr parameters .comp .sod .nrs w s

/-- SONR COMP SOD NRAS: R125, R139, R147. -/
def execSonrCompSodNras (w : Width) (s : State) : Result := runSonr parameters .comp .sod .nras w s

/-- SONR COMP SOI NRY: R125, R140, R144. -/
def execSonrCompSoiNry (w : Width) (imm : Word) (s : State) : Result :=
  runSonr parameters .comp (.soi imm) .nry w s

/-- SONR COMP SOI NRA: R125, R140, R145. -/
def execSonrCompSoiNra (w : Width) (imm : Word) (s : State) : Result :=
  runSonr parameters .comp (.soi imm) .nra w s

/-- SONR COMP SOI NRS: R125, R140, R146. -/
def execSonrCompSoiNrs (w : Width) (imm : Word) (s : State) : Result :=
  runSonr parameters .comp (.soi imm) .nrs w s

/-- SONR COMP SOI NRAS: R125, R140, R147. -/
def execSonrCompSoiNras (w : Width) (imm : Word) (s : State) : Result :=
  runSonr parameters .comp (.soi imm) .nras w s

/-- SONR COMP SOZ NRY: R125, R141, R144. -/
def execSonrCompSozNry (w : Width) (s : State) : Result := runSonr parameters .comp .soz .nry w s

/-- SONR COMP SOZ NRA: R125, R141, R145. -/
def execSonrCompSozNra (w : Width) (s : State) : Result := runSonr parameters .comp .soz .nra w s

/-- SONR COMP SOZ NRS: R125, R141, R146. -/
def execSonrCompSozNrs (w : Width) (s : State) : Result := runSonr parameters .comp .soz .nrs w s

/-- SONR COMP SOZ NRAS: R125, R141, R147. -/
def execSonrCompSozNras (w : Width) (s : State) : Result := runSonr parameters .comp .soz .nras w s

/-- SONR COMP SOZE NRY: R125, R142, R144. -/
def execSonrCompSozeNry (w : Width) (s : State) : Result := runSonr parameters .comp .soze .nry w s

/-- SONR COMP SOZE NRA: R125, R142, R145. -/
def execSonrCompSozeNra (w : Width) (s : State) : Result := runSonr parameters .comp .soze .nra w s

/-- SONR COMP SOZE NRS: R125, R142, R146. -/
def execSonrCompSozeNrs (w : Width) (s : State) : Result := runSonr parameters .comp .soze .nrs w s

/-- SONR COMP SOZE NRAS: R125, R142, R147. -/
def execSonrCompSozeNras (w : Width) (s : State) : Result :=
  runSonr parameters .comp .soze .nras w s

/-- SONR COMP SOSE NRY: R125, R143, R144. -/
def execSonrCompSoseNry (w : Width) (s : State) : Result := runSonr parameters .comp .sose .nry w s

/-- SONR COMP SOSE NRA: R125, R143, R145. -/
def execSonrCompSoseNra (w : Width) (s : State) : Result := runSonr parameters .comp .sose .nra w s

/-- SONR COMP SOSE NRS: R125, R143, R146. -/
def execSonrCompSoseNrs (w : Width) (s : State) : Result := runSonr parameters .comp .sose .nrs w s

/-- SONR COMP SOSE NRAS: R125, R143, R147. -/
def execSonrCompSoseNras (w : Width) (s : State) : Result :=
  runSonr parameters .comp .sose .nras w s

/-- SONR INC SOA NRY: R126, R138, R144. -/
def execSonrIncSoaNry (w : Width) (s : State) : Result := runSonr parameters .inc .soa .nry w s

/-- SONR INC SOA NRA: R126, R138, R145. -/
def execSonrIncSoaNra (w : Width) (s : State) : Result := runSonr parameters .inc .soa .nra w s

/-- SONR INC SOA NRS: R126, R138, R146. -/
def execSonrIncSoaNrs (w : Width) (s : State) : Result := runSonr parameters .inc .soa .nrs w s

/-- SONR INC SOA NRAS: R126, R138, R147. -/
def execSonrIncSoaNras (w : Width) (s : State) : Result := runSonr parameters .inc .soa .nras w s

/-- SONR INC SOD NRY: R126, R139, R144. -/
def execSonrIncSodNry (w : Width) (s : State) : Result := runSonr parameters .inc .sod .nry w s

/-- SONR INC SOD NRA: R126, R139, R145. -/
def execSonrIncSodNra (w : Width) (s : State) : Result := runSonr parameters .inc .sod .nra w s

/-- SONR INC SOD NRS: R126, R139, R146. -/
def execSonrIncSodNrs (w : Width) (s : State) : Result := runSonr parameters .inc .sod .nrs w s

/-- SONR INC SOD NRAS: R126, R139, R147. -/
def execSonrIncSodNras (w : Width) (s : State) : Result := runSonr parameters .inc .sod .nras w s

/-- SONR INC SOI NRY: R126, R140, R144. -/
def execSonrIncSoiNry (w : Width) (imm : Word) (s : State) : Result :=
  runSonr parameters .inc (.soi imm) .nry w s

/-- SONR INC SOI NRA: R126, R140, R145. -/
def execSonrIncSoiNra (w : Width) (imm : Word) (s : State) : Result :=
  runSonr parameters .inc (.soi imm) .nra w s

/-- SONR INC SOI NRS: R126, R140, R146. -/
def execSonrIncSoiNrs (w : Width) (imm : Word) (s : State) : Result :=
  runSonr parameters .inc (.soi imm) .nrs w s

/-- SONR INC SOI NRAS: R126, R140, R147. -/
def execSonrIncSoiNras (w : Width) (imm : Word) (s : State) : Result :=
  runSonr parameters .inc (.soi imm) .nras w s

/-- SONR INC SOZ NRY: R126, R141, R144. -/
def execSonrIncSozNry (w : Width) (s : State) : Result := runSonr parameters .inc .soz .nry w s

/-- SONR INC SOZ NRA: R126, R141, R145. -/
def execSonrIncSozNra (w : Width) (s : State) : Result := runSonr parameters .inc .soz .nra w s

/-- SONR INC SOZ NRS: R126, R141, R146. -/
def execSonrIncSozNrs (w : Width) (s : State) : Result := runSonr parameters .inc .soz .nrs w s

/-- SONR INC SOZ NRAS: R126, R141, R147. -/
def execSonrIncSozNras (w : Width) (s : State) : Result := runSonr parameters .inc .soz .nras w s

/-- SONR INC SOZE NRY: R126, R142, R144. -/
def execSonrIncSozeNry (w : Width) (s : State) : Result := runSonr parameters .inc .soze .nry w s

/-- SONR INC SOZE NRA: R126, R142, R145. -/
def execSonrIncSozeNra (w : Width) (s : State) : Result := runSonr parameters .inc .soze .nra w s

/-- SONR INC SOZE NRS: R126, R142, R146. -/
def execSonrIncSozeNrs (w : Width) (s : State) : Result := runSonr parameters .inc .soze .nrs w s

/-- SONR INC SOZE NRAS: R126, R142, R147. -/
def execSonrIncSozeNras (w : Width) (s : State) : Result := runSonr parameters .inc .soze .nras w s

/-- SONR INC SOSE NRY: R126, R143, R144. -/
def execSonrIncSoseNry (w : Width) (s : State) : Result := runSonr parameters .inc .sose .nry w s

/-- SONR INC SOSE NRA: R126, R143, R145. -/
def execSonrIncSoseNra (w : Width) (s : State) : Result := runSonr parameters .inc .sose .nra w s

/-- SONR INC SOSE NRS: R126, R143, R146. -/
def execSonrIncSoseNrs (w : Width) (s : State) : Result := runSonr parameters .inc .sose .nrs w s

/-- SONR INC SOSE NRAS: R126, R143, R147. -/
def execSonrIncSoseNras (w : Width) (s : State) : Result := runSonr parameters .inc .sose .nras w s

/-- SONR NEG SOA NRY: R127, R138, R144. -/
def execSonrNegSoaNry (w : Width) (s : State) : Result := runSonr parameters .neg .soa .nry w s

/-- SONR NEG SOA NRA: R127, R138, R145. -/
def execSonrNegSoaNra (w : Width) (s : State) : Result := runSonr parameters .neg .soa .nra w s

/-- SONR NEG SOA NRS: R127, R138, R146. -/
def execSonrNegSoaNrs (w : Width) (s : State) : Result := runSonr parameters .neg .soa .nrs w s

/-- SONR NEG SOA NRAS: R127, R138, R147. -/
def execSonrNegSoaNras (w : Width) (s : State) : Result := runSonr parameters .neg .soa .nras w s

/-- SONR NEG SOD NRY: R127, R139, R144. -/
def execSonrNegSodNry (w : Width) (s : State) : Result := runSonr parameters .neg .sod .nry w s

/-- SONR NEG SOD NRA: R127, R139, R145. -/
def execSonrNegSodNra (w : Width) (s : State) : Result := runSonr parameters .neg .sod .nra w s

/-- SONR NEG SOD NRS: R127, R139, R146. -/
def execSonrNegSodNrs (w : Width) (s : State) : Result := runSonr parameters .neg .sod .nrs w s

/-- SONR NEG SOD NRAS: R127, R139, R147. -/
def execSonrNegSodNras (w : Width) (s : State) : Result := runSonr parameters .neg .sod .nras w s

/-- SONR NEG SOI NRY: R127, R140, R144. -/
def execSonrNegSoiNry (w : Width) (imm : Word) (s : State) : Result :=
  runSonr parameters .neg (.soi imm) .nry w s

/-- SONR NEG SOI NRA: R127, R140, R145. -/
def execSonrNegSoiNra (w : Width) (imm : Word) (s : State) : Result :=
  runSonr parameters .neg (.soi imm) .nra w s

/-- SONR NEG SOI NRS: R127, R140, R146. -/
def execSonrNegSoiNrs (w : Width) (imm : Word) (s : State) : Result :=
  runSonr parameters .neg (.soi imm) .nrs w s

/-- SONR NEG SOI NRAS: R127, R140, R147. -/
def execSonrNegSoiNras (w : Width) (imm : Word) (s : State) : Result :=
  runSonr parameters .neg (.soi imm) .nras w s

/-- SONR NEG SOZ NRY: R127, R141, R144. -/
def execSonrNegSozNry (w : Width) (s : State) : Result := runSonr parameters .neg .soz .nry w s

/-- SONR NEG SOZ NRA: R127, R141, R145. -/
def execSonrNegSozNra (w : Width) (s : State) : Result := runSonr parameters .neg .soz .nra w s

/-- SONR NEG SOZ NRS: R127, R141, R146. -/
def execSonrNegSozNrs (w : Width) (s : State) : Result := runSonr parameters .neg .soz .nrs w s

/-- SONR NEG SOZ NRAS: R127, R141, R147. -/
def execSonrNegSozNras (w : Width) (s : State) : Result := runSonr parameters .neg .soz .nras w s

/-- SONR NEG SOZE NRY: R127, R142, R144. -/
def execSonrNegSozeNry (w : Width) (s : State) : Result := runSonr parameters .neg .soze .nry w s

/-- SONR NEG SOZE NRA: R127, R142, R145. -/
def execSonrNegSozeNra (w : Width) (s : State) : Result := runSonr parameters .neg .soze .nra w s

/-- SONR NEG SOZE NRS: R127, R142, R146. -/
def execSonrNegSozeNrs (w : Width) (s : State) : Result := runSonr parameters .neg .soze .nrs w s

/-- SONR NEG SOZE NRAS: R127, R142, R147. -/
def execSonrNegSozeNras (w : Width) (s : State) : Result := runSonr parameters .neg .soze .nras w s

/-- SONR NEG SOSE NRY: R127, R143, R144. -/
def execSonrNegSoseNry (w : Width) (s : State) : Result := runSonr parameters .neg .sose .nry w s

/-- SONR NEG SOSE NRA: R127, R143, R145. -/
def execSonrNegSoseNra (w : Width) (s : State) : Result := runSonr parameters .neg .sose .nra w s

/-- SONR NEG SOSE NRS: R127, R143, R146. -/
def execSonrNegSoseNrs (w : Width) (s : State) : Result := runSonr parameters .neg .sose .nrs w s

/-- SONR NEG SOSE NRAS: R127, R143, R147. -/
def execSonrNegSoseNras (w : Width) (s : State) : Result := runSonr parameters .neg .sose .nras w s

end Sys2Proof.Machine
end

