-- ==== Sys2Proof/Machine/Status.lean ====
section
/-! DEFINITION. Status instructions, formats SETST, RSTST, SVSTR, SVSTNR and TSTST (48_status.md). -/

namespace Sys2Proof.Machine

/-! ## Set and reset -/

/-- The effect of SETST on РгС (R352 to R356). -/
def setStatus (op : SetOp) (st : Status) : Status :=
  match op with
  | .sonccz => { st with ovr := true, n := true, c := true, z := true }
  | .sl => { st with l := true }
  | .sf1 => { st with fl1 := true }
  | .sf2 => { st with fl2 := true }
  | .sf3 => { st with fl3 := true }

/-- The effect of RSTST on РгС (R357 to R361). -/
def resetStatus (op : RstOp) (st : Status) : Status :=
  match op with
  | .ronccz => { st with ovr := false, n := false, c := false, z := false }
  | .rl => { st with l := false }
  | .rf1 => { st with fl1 := false }
  | .rf2 => { st with fl2 := false }
  | .rf3 => { st with fl3 := false }

/-- Every SETST instruction: Y is all ones (R350). -/
def runSetst (op : SetOp) (s : State) : Result :=
  .next (({ s with st := setStatus op s.st }).finish 0xFFFF (Config.freeCT s.draws) 1)

/-- Every RSTST instruction: Y is all zeros (R351). -/
def runRstst (op : RstOp) (s : State) : Result :=
  .next (({ s with st := resetStatus op s.st }).finish 0x0000 (Config.freeCT s.draws) 1)

/-! ## Save -/

/-- R371: РгС on Y[7:0] and 0 on Y[15:8], in byte mode too; РгС is unchanged. -/
def runSave (p : Params) (dst : Dst) (w : Width) (s : State) : Result :=
  let r : Word := (s.st.toByte p.stLayout).setWidth 16
  .next ((s.write w dst (loW w r)).finish r (Config.freeCT s.draws) 1)

/-- SVSTR (R370, R372). -/
def runSvstr (p : Params) (w : Width) (a : Reg) (s : State) : Result := runSave p (.reg a) w s

/-- Every SVSTNR instruction (R370, R373). -/
def runSvstnr (p : Params) (dst : NrShortDest) (w : Width) (s : State) : Result :=
  runSave p dst.dst w s

/-! ## Test -/

/-- The truth of a test condition (R378 to R389). -/
def testCond (cond : TestCond) (st : Status) : Bool :=
  match cond with
  | .tnoz => (st.n ^^ st.ovr) || st.z
  | .tno => st.n ^^ st.ovr
  | .tz => st.z
  | .tovr => st.ovr
  | .tlow => false
  | .tc => st.c
  | .tzc => st.z || !st.c
  | .tn => st.n
  | .tl => st.l
  | .tf1 => st.fl1
  | .tf2 => st.fl2
  | .tf3 => st.fl3

/-- The level of CT for a truth value, by `CT_POLARITY` (R376). -/
def ctLevel (p : Params) (b : Bool) : Bool :=
  match p.ctPolarity with
  | .trueIs1 => b
  | .trueIs0 => !b

/-- Every TSTST instruction: Y is a draw, no register and no status bit changes (R376). -/
def runTstst (p : Params) (cond : TestCond) (s : State) : Result :=
  .next (s.finish (Config.freeY s.draws) (ctLevel p (testCond cond s.st)) 1)

/-- The condition the host selects by the code `t` on T(4:1), applied to РгС between instructions
(R377): `t` is the field I(4:1) of the TSTST instruction that selects it. An observation only; no step
uses it. -/
def ctViaT (t : BitVec 4) (st : Status) : Option Bool :=
  (TestCond.ofCode (t ++ 0#1)).map fun cond => testCond cond st

/-! ## SETST -/

/-- SETST SONCCZ: R352. -/
def execSetstSonccz (s : State) : Result := runSetst .sonccz s

/-- SETST SL: R353. -/
def execSetstSl (s : State) : Result := runSetst .sl s

/-- SETST SF1: R354. -/
def execSetstSf1 (s : State) : Result := runSetst .sf1 s

/-- SETST SF2: R355. -/
def execSetstSf2 (s : State) : Result := runSetst .sf2 s

/-- SETST SF3: R356. -/
def execSetstSf3 (s : State) : Result := runSetst .sf3 s

/-! ## RSTST -/

/-- RSTST RONCCZ: R357. -/
def execRststRonccz (s : State) : Result := runRstst .ronccz s

/-- RSTST RL: R358. -/
def execRststRl (s : State) : Result := runRstst .rl s

/-- RSTST RF1: R359. -/
def execRststRf1 (s : State) : Result := runRstst .rf1 s

/-- RSTST RF2: R360. -/
def execRststRf2 (s : State) : Result := runRstst .rf2 s

/-- RSTST RF3: R361. -/
def execRststRf3 (s : State) : Result := runRstst .rf3 s

/-! ## SVSTR -/

/-- SVSTR: R372. -/
def execSvstr (w : Width) (a : Reg) (s : State) : Result := runSvstr parameters w a s

/-! ## SVSTNR -/

/-- SVSTNR NRY: R373. -/
def execSvstnrNry (w : Width) (s : State) : Result := runSvstnr parameters .nry w s

/-- SVSTNR NRA: R373. -/
def execSvstnrNra (w : Width) (s : State) : Result := runSvstnr parameters .nra w s

/-! ## TSTST -/

/-- TSTST TNOZ: R378. -/
def execTststTnoz (s : State) : Result := runTstst parameters .tnoz s

/-- TSTST TNO: R379. -/
def execTststTno (s : State) : Result := runTstst parameters .tno s

/-- TSTST TZ: R380. -/
def execTststTz (s : State) : Result := runTstst parameters .tz s

/-- TSTST TOVR: R381. -/
def execTststTovr (s : State) : Result := runTstst parameters .tovr s

/-- TSTST TLOW: R382. -/
def execTststTlow (s : State) : Result := runTstst parameters .tlow s

/-- TSTST TC: R383. -/
def execTststTc (s : State) : Result := runTstst parameters .tc s

/-- TSTST TZC: R384. -/
def execTststTzc (s : State) : Result := runTstst parameters .tzc s

/-- TSTST TN: R385. -/
def execTststTn (s : State) : Result := runTstst parameters .tn s

/-- TSTST TL: R386. -/
def execTststTl (s : State) : Result := runTstst parameters .tl s

/-- TSTST TF1: R387. -/
def execTststTf1 (s : State) : Result := runTstst parameters .tf1 s

/-- TSTST TF2: R388. -/
def execTststTf2 (s : State) : Result := runTstst parameters .tf2 s

/-- TSTST TF3: R389. -/
def execTststTf3 (s : State) : Result := runTstst parameters .tf3 s

end Sys2Proof.Machine
end

