-- ==== Sys2Proof/Machine/TwoOperand.lean ====
section
/-! DEFINITION. Two-operand instructions, formats TOR1, TOR2 and TONR (41_two_operand.md). -/

namespace Sys2Proof.Machine

/-- The operations of R167 to R178 on the operands R and S (`r`, `s`). -/
def twoOp {k : Nat} (p : Params) (draw : Nat) (op : TwoOp) (r s : BitVec k) (st : Status) :
    AluResult k :=
  match op with
  | .subr => subtract p s r st
  | .subrc => subtractWithCarry p draw s r st
  | .subs => subtract p r s st
  | .subsc => subtractWithCarry p draw r s st
  | .add => arithResult (addW r s false) st
  | .addc => arithResult (addW r s st.c) st
  | .and => logicResult (r &&& s) st
  | .nand => logicResult (~~~(r &&& s)) st
  | .exor => logicResult (r ^^^ s) st
  | .nor => logicResult (~~~(r ||| s)) st
  | .or => logicResult (r ||| s) st
  | .exnor => logicResult (~~~(r ^^^ s)) st

/-- R163 for two sources and a destination. Only the second source can be I. -/
def runTwo (p : Params) (op : TwoOp) (r s : Src) (dst : Dst) (w : Width) (σ : State) : Result :=
  σ.deliver p w dst (twoOp p σ.draws op (σ.operand w r) (σ.operand w s) σ.st) s.instrWords

/-- Every TOR1 instruction (R160, R163). -/
def runTor1 (p : Params) (form : Tor1Form) (op : TwoOp) (w : Width) (a : Reg) (s : State) : Result :=
  runTwo p op (form.r a) (form.s a) (form.dst a) w s

/-- Every TOR2 instruction (R161, R163). -/
def runTor2 (p : Params) (form : Tor2Form) (op : TwoOp) (w : Width) (a : Reg) (s : State) : Result :=
  runTwo p op form.r form.s (.reg a) w s

/-- Every TONR instruction (R162, R163). -/
def runTonr (p : Params) (form : TonrForm) (op : TwoOp) (dst : NrDest) (w : Width) (s : State) :
    Result :=
  runTwo p op form.r form.s dst.dst w s

/-! ## TOR1 -/

/-- TOR1 TORAA SUBR: R167, R179. -/
def execTor1ToraaSubr (w : Width) (a : Reg) (s : State) : Result :=
  runTor1 parameters .toraa .subr w a s

/-- TOR1 TORIA SUBR: R167, R180. -/
def execTor1ToriaSubr (w : Width) (a : Reg) (imm : Word) (s : State) : Result :=
  runTor1 parameters (.toria imm) .subr w a s

/-- TOR1 TODRA SUBR: R167, R181. -/
def execTor1TodraSubr (w : Width) (a : Reg) (s : State) : Result :=
  runTor1 parameters .todra .subr w a s

/-- TOR1 TORAY SUBR: R167, R182. -/
def execTor1ToraySubr (w : Width) (a : Reg) (s : State) : Result :=
  runTor1 parameters .toray .subr w a s

/-- TOR1 TORIY SUBR: R167, R183. -/
def execTor1ToriySubr (w : Width) (a : Reg) (imm : Word) (s : State) : Result :=
  runTor1 parameters (.toriy imm) .subr w a s

/-- TOR1 TODRY SUBR: R167, R184. -/
def execTor1TodrySubr (w : Width) (a : Reg) (s : State) : Result :=
  runTor1 parameters .todry .subr w a s

/-- TOR1 TORAR SUBR: R167, R185. -/
def execTor1TorarSubr (w : Width) (a : Reg) (s : State) : Result :=
  runTor1 parameters .torar .subr w a s

/-- TOR1 TORIR SUBR: R167, R186. -/
def execTor1TorirSubr (w : Width) (a : Reg) (imm : Word) (s : State) : Result :=
  runTor1 parameters (.torir imm) .subr w a s

/-- TOR1 TODRR SUBR: R167, R187. -/
def execTor1TodrrSubr (w : Width) (a : Reg) (s : State) : Result :=
  runTor1 parameters .todrr .subr w a s

/-- TOR1 TORAA SUBRC: R168, R179. -/
def execTor1ToraaSubrc (w : Width) (a : Reg) (s : State) : Result :=
  runTor1 parameters .toraa .subrc w a s

/-- TOR1 TORIA SUBRC: R168, R180. -/
def execTor1ToriaSubrc (w : Width) (a : Reg) (imm : Word) (s : State) : Result :=
  runTor1 parameters (.toria imm) .subrc w a s

/-- TOR1 TODRA SUBRC: R168, R181. -/
def execTor1TodraSubrc (w : Width) (a : Reg) (s : State) : Result :=
  runTor1 parameters .todra .subrc w a s

/-- TOR1 TORAY SUBRC: R168, R182. -/
def execTor1ToraySubrc (w : Width) (a : Reg) (s : State) : Result :=
  runTor1 parameters .toray .subrc w a s

/-- TOR1 TORIY SUBRC: R168, R183. -/
def execTor1ToriySubrc (w : Width) (a : Reg) (imm : Word) (s : State) : Result :=
  runTor1 parameters (.toriy imm) .subrc w a s

/-- TOR1 TODRY SUBRC: R168, R184. -/
def execTor1TodrySubrc (w : Width) (a : Reg) (s : State) : Result :=
  runTor1 parameters .todry .subrc w a s

/-- TOR1 TORAR SUBRC: R168, R185. -/
def execTor1TorarSubrc (w : Width) (a : Reg) (s : State) : Result :=
  runTor1 parameters .torar .subrc w a s

/-- TOR1 TORIR SUBRC: R168, R186. -/
def execTor1TorirSubrc (w : Width) (a : Reg) (imm : Word) (s : State) : Result :=
  runTor1 parameters (.torir imm) .subrc w a s

/-- TOR1 TODRR SUBRC: R168, R187. -/
def execTor1TodrrSubrc (w : Width) (a : Reg) (s : State) : Result :=
  runTor1 parameters .todrr .subrc w a s

/-- TOR1 TORAA SUBS: R169, R179. -/
def execTor1ToraaSubs (w : Width) (a : Reg) (s : State) : Result :=
  runTor1 parameters .toraa .subs w a s

/-- TOR1 TORIA SUBS: R169, R180. -/
def execTor1ToriaSubs (w : Width) (a : Reg) (imm : Word) (s : State) : Result :=
  runTor1 parameters (.toria imm) .subs w a s

/-- TOR1 TODRA SUBS: R169, R181. -/
def execTor1TodraSubs (w : Width) (a : Reg) (s : State) : Result :=
  runTor1 parameters .todra .subs w a s

/-- TOR1 TORAY SUBS: R169, R182. -/
def execTor1ToraySubs (w : Width) (a : Reg) (s : State) : Result :=
  runTor1 parameters .toray .subs w a s

/-- TOR1 TORIY SUBS: R169, R183. -/
def execTor1ToriySubs (w : Width) (a : Reg) (imm : Word) (s : State) : Result :=
  runTor1 parameters (.toriy imm) .subs w a s

/-- TOR1 TODRY SUBS: R169, R184. -/
def execTor1TodrySubs (w : Width) (a : Reg) (s : State) : Result :=
  runTor1 parameters .todry .subs w a s

/-- TOR1 TORAR SUBS: R169, R185. -/
def execTor1TorarSubs (w : Width) (a : Reg) (s : State) : Result :=
  runTor1 parameters .torar .subs w a s

/-- TOR1 TORIR SUBS: R169, R186. -/
def execTor1TorirSubs (w : Width) (a : Reg) (imm : Word) (s : State) : Result :=
  runTor1 parameters (.torir imm) .subs w a s

/-- TOR1 TODRR SUBS: R169, R187. -/
def execTor1TodrrSubs (w : Width) (a : Reg) (s : State) : Result :=
  runTor1 parameters .todrr .subs w a s

/-- TOR1 TORAA SUBSC: R170, R179. -/
def execTor1ToraaSubsc (w : Width) (a : Reg) (s : State) : Result :=
  runTor1 parameters .toraa .subsc w a s

/-- TOR1 TORIA SUBSC: R170, R180. -/
def execTor1ToriaSubsc (w : Width) (a : Reg) (imm : Word) (s : State) : Result :=
  runTor1 parameters (.toria imm) .subsc w a s

/-- TOR1 TODRA SUBSC: R170, R181. -/
def execTor1TodraSubsc (w : Width) (a : Reg) (s : State) : Result :=
  runTor1 parameters .todra .subsc w a s

/-- TOR1 TORAY SUBSC: R170, R182. -/
def execTor1ToraySubsc (w : Width) (a : Reg) (s : State) : Result :=
  runTor1 parameters .toray .subsc w a s

/-- TOR1 TORIY SUBSC: R170, R183. -/
def execTor1ToriySubsc (w : Width) (a : Reg) (imm : Word) (s : State) : Result :=
  runTor1 parameters (.toriy imm) .subsc w a s

/-- TOR1 TODRY SUBSC: R170, R184. -/
def execTor1TodrySubsc (w : Width) (a : Reg) (s : State) : Result :=
  runTor1 parameters .todry .subsc w a s

/-- TOR1 TORAR SUBSC: R170, R185. -/
def execTor1TorarSubsc (w : Width) (a : Reg) (s : State) : Result :=
  runTor1 parameters .torar .subsc w a s

/-- TOR1 TORIR SUBSC: R170, R186. -/
def execTor1TorirSubsc (w : Width) (a : Reg) (imm : Word) (s : State) : Result :=
  runTor1 parameters (.torir imm) .subsc w a s

/-- TOR1 TODRR SUBSC: R170, R187. -/
def execTor1TodrrSubsc (w : Width) (a : Reg) (s : State) : Result :=
  runTor1 parameters .todrr .subsc w a s

/-- TOR1 TORAA ADD: R171, R179. -/
def execTor1ToraaAdd (w : Width) (a : Reg) (s : State) : Result :=
  runTor1 parameters .toraa .add w a s

/-- TOR1 TORIA ADD: R171, R180. -/
def execTor1ToriaAdd (w : Width) (a : Reg) (imm : Word) (s : State) : Result :=
  runTor1 parameters (.toria imm) .add w a s

/-- TOR1 TODRA ADD: R171, R181. -/
def execTor1TodraAdd (w : Width) (a : Reg) (s : State) : Result :=
  runTor1 parameters .todra .add w a s

/-- TOR1 TORAY ADD: R171, R182. -/
def execTor1TorayAdd (w : Width) (a : Reg) (s : State) : Result :=
  runTor1 parameters .toray .add w a s

/-- TOR1 TORIY ADD: R171, R183. -/
def execTor1ToriyAdd (w : Width) (a : Reg) (imm : Word) (s : State) : Result :=
  runTor1 parameters (.toriy imm) .add w a s

/-- TOR1 TODRY ADD: R171, R184. -/
def execTor1TodryAdd (w : Width) (a : Reg) (s : State) : Result :=
  runTor1 parameters .todry .add w a s

/-- TOR1 TORAR ADD: R171, R185. -/
def execTor1TorarAdd (w : Width) (a : Reg) (s : State) : Result :=
  runTor1 parameters .torar .add w a s

/-- TOR1 TORIR ADD: R171, R186. -/
def execTor1TorirAdd (w : Width) (a : Reg) (imm : Word) (s : State) : Result :=
  runTor1 parameters (.torir imm) .add w a s

/-- TOR1 TODRR ADD: R171, R187. -/
def execTor1TodrrAdd (w : Width) (a : Reg) (s : State) : Result :=
  runTor1 parameters .todrr .add w a s

/-- TOR1 TORAA ADDC: R172, R179. -/
def execTor1ToraaAddc (w : Width) (a : Reg) (s : State) : Result :=
  runTor1 parameters .toraa .addc w a s

/-- TOR1 TORIA ADDC: R172, R180. -/
def execTor1ToriaAddc (w : Width) (a : Reg) (imm : Word) (s : State) : Result :=
  runTor1 parameters (.toria imm) .addc w a s

/-- TOR1 TODRA ADDC: R172, R181. -/
def execTor1TodraAddc (w : Width) (a : Reg) (s : State) : Result :=
  runTor1 parameters .todra .addc w a s

/-- TOR1 TORAY ADDC: R172, R182. -/
def execTor1TorayAddc (w : Width) (a : Reg) (s : State) : Result :=
  runTor1 parameters .toray .addc w a s

/-- TOR1 TORIY ADDC: R172, R183. -/
def execTor1ToriyAddc (w : Width) (a : Reg) (imm : Word) (s : State) : Result :=
  runTor1 parameters (.toriy imm) .addc w a s

/-- TOR1 TODRY ADDC: R172, R184. -/
def execTor1TodryAddc (w : Width) (a : Reg) (s : State) : Result :=
  runTor1 parameters .todry .addc w a s

/-- TOR1 TORAR ADDC: R172, R185. -/
def execTor1TorarAddc (w : Width) (a : Reg) (s : State) : Result :=
  runTor1 parameters .torar .addc w a s

/-- TOR1 TORIR ADDC: R172, R186. -/
def execTor1TorirAddc (w : Width) (a : Reg) (imm : Word) (s : State) : Result :=
  runTor1 parameters (.torir imm) .addc w a s

/-- TOR1 TODRR ADDC: R172, R187. -/
def execTor1TodrrAddc (w : Width) (a : Reg) (s : State) : Result :=
  runTor1 parameters .todrr .addc w a s

/-- TOR1 TORAA AND: R173, R179. -/
def execTor1ToraaAnd (w : Width) (a : Reg) (s : State) : Result :=
  runTor1 parameters .toraa .and w a s

/-- TOR1 TORIA AND: R173, R180. -/
def execTor1ToriaAnd (w : Width) (a : Reg) (imm : Word) (s : State) : Result :=
  runTor1 parameters (.toria imm) .and w a s

/-- TOR1 TODRA AND: R173, R181. -/
def execTor1TodraAnd (w : Width) (a : Reg) (s : State) : Result :=
  runTor1 parameters .todra .and w a s

/-- TOR1 TORAY AND: R173, R182. -/
def execTor1TorayAnd (w : Width) (a : Reg) (s : State) : Result :=
  runTor1 parameters .toray .and w a s

/-- TOR1 TORIY AND: R173, R183. -/
def execTor1ToriyAnd (w : Width) (a : Reg) (imm : Word) (s : State) : Result :=
  runTor1 parameters (.toriy imm) .and w a s

/-- TOR1 TODRY AND: R173, R184. -/
def execTor1TodryAnd (w : Width) (a : Reg) (s : State) : Result :=
  runTor1 parameters .todry .and w a s

/-- TOR1 TORAR AND: R173, R185. -/
def execTor1TorarAnd (w : Width) (a : Reg) (s : State) : Result :=
  runTor1 parameters .torar .and w a s

/-- TOR1 TORIR AND: R173, R186. -/
def execTor1TorirAnd (w : Width) (a : Reg) (imm : Word) (s : State) : Result :=
  runTor1 parameters (.torir imm) .and w a s

/-- TOR1 TODRR AND: R173, R187. -/
def execTor1TodrrAnd (w : Width) (a : Reg) (s : State) : Result :=
  runTor1 parameters .todrr .and w a s

/-- TOR1 TORAA NAND: R174, R179. -/
def execTor1ToraaNand (w : Width) (a : Reg) (s : State) : Result :=
  runTor1 parameters .toraa .nand w a s

/-- TOR1 TORIA NAND: R174, R180. -/
def execTor1ToriaNand (w : Width) (a : Reg) (imm : Word) (s : State) : Result :=
  runTor1 parameters (.toria imm) .nand w a s

/-- TOR1 TODRA NAND: R174, R181. -/
def execTor1TodraNand (w : Width) (a : Reg) (s : State) : Result :=
  runTor1 parameters .todra .nand w a s

/-- TOR1 TORAY NAND: R174, R182. -/
def execTor1TorayNand (w : Width) (a : Reg) (s : State) : Result :=
  runTor1 parameters .toray .nand w a s

/-- TOR1 TORIY NAND: R174, R183. -/
def execTor1ToriyNand (w : Width) (a : Reg) (imm : Word) (s : State) : Result :=
  runTor1 parameters (.toriy imm) .nand w a s

/-- TOR1 TODRY NAND: R174, R184. -/
def execTor1TodryNand (w : Width) (a : Reg) (s : State) : Result :=
  runTor1 parameters .todry .nand w a s

/-- TOR1 TORAR NAND: R174, R185. -/
def execTor1TorarNand (w : Width) (a : Reg) (s : State) : Result :=
  runTor1 parameters .torar .nand w a s

/-- TOR1 TORIR NAND: R174, R186. -/
def execTor1TorirNand (w : Width) (a : Reg) (imm : Word) (s : State) : Result :=
  runTor1 parameters (.torir imm) .nand w a s

/-- TOR1 TODRR NAND: R174, R187. -/
def execTor1TodrrNand (w : Width) (a : Reg) (s : State) : Result :=
  runTor1 parameters .todrr .nand w a s

/-- TOR1 TORAA EXOR: R175, R179. -/
def execTor1ToraaExor (w : Width) (a : Reg) (s : State) : Result :=
  runTor1 parameters .toraa .exor w a s

/-- TOR1 TORIA EXOR: R175, R180. -/
def execTor1ToriaExor (w : Width) (a : Reg) (imm : Word) (s : State) : Result :=
  runTor1 parameters (.toria imm) .exor w a s

/-- TOR1 TODRA EXOR: R175, R181. -/
def execTor1TodraExor (w : Width) (a : Reg) (s : State) : Result :=
  runTor1 parameters .todra .exor w a s

/-- TOR1 TORAY EXOR: R175, R182. -/
def execTor1TorayExor (w : Width) (a : Reg) (s : State) : Result :=
  runTor1 parameters .toray .exor w a s

/-- TOR1 TORIY EXOR: R175, R183. -/
def execTor1ToriyExor (w : Width) (a : Reg) (imm : Word) (s : State) : Result :=
  runTor1 parameters (.toriy imm) .exor w a s

/-- TOR1 TODRY EXOR: R175, R184. -/
def execTor1TodryExor (w : Width) (a : Reg) (s : State) : Result :=
  runTor1 parameters .todry .exor w a s

/-- TOR1 TORAR EXOR: R175, R185. -/
def execTor1TorarExor (w : Width) (a : Reg) (s : State) : Result :=
  runTor1 parameters .torar .exor w a s

/-- TOR1 TORIR EXOR: R175, R186. -/
def execTor1TorirExor (w : Width) (a : Reg) (imm : Word) (s : State) : Result :=
  runTor1 parameters (.torir imm) .exor w a s

/-- TOR1 TODRR EXOR: R175, R187. -/
def execTor1TodrrExor (w : Width) (a : Reg) (s : State) : Result :=
  runTor1 parameters .todrr .exor w a s

/-- TOR1 TORAA NOR: R176, R179. -/
def execTor1ToraaNor (w : Width) (a : Reg) (s : State) : Result :=
  runTor1 parameters .toraa .nor w a s

/-- TOR1 TORIA NOR: R176, R180. -/
def execTor1ToriaNor (w : Width) (a : Reg) (imm : Word) (s : State) : Result :=
  runTor1 parameters (.toria imm) .nor w a s

/-- TOR1 TODRA NOR: R176, R181. -/
def execTor1TodraNor (w : Width) (a : Reg) (s : State) : Result :=
  runTor1 parameters .todra .nor w a s

/-- TOR1 TORAY NOR: R176, R182. -/
def execTor1TorayNor (w : Width) (a : Reg) (s : State) : Result :=
  runTor1 parameters .toray .nor w a s

/-- TOR1 TORIY NOR: R176, R183. -/
def execTor1ToriyNor (w : Width) (a : Reg) (imm : Word) (s : State) : Result :=
  runTor1 parameters (.toriy imm) .nor w a s

/-- TOR1 TODRY NOR: R176, R184. -/
def execTor1TodryNor (w : Width) (a : Reg) (s : State) : Result :=
  runTor1 parameters .todry .nor w a s

/-- TOR1 TORAR NOR: R176, R185. -/
def execTor1TorarNor (w : Width) (a : Reg) (s : State) : Result :=
  runTor1 parameters .torar .nor w a s

/-- TOR1 TORIR NOR: R176, R186. -/
def execTor1TorirNor (w : Width) (a : Reg) (imm : Word) (s : State) : Result :=
  runTor1 parameters (.torir imm) .nor w a s

/-- TOR1 TODRR NOR: R176, R187. -/
def execTor1TodrrNor (w : Width) (a : Reg) (s : State) : Result :=
  runTor1 parameters .todrr .nor w a s

/-- TOR1 TORAA OR: R177, R179. -/
def execTor1ToraaOr (w : Width) (a : Reg) (s : State) : Result :=
  runTor1 parameters .toraa .or w a s

/-- TOR1 TORIA OR: R177, R180. -/
def execTor1ToriaOr (w : Width) (a : Reg) (imm : Word) (s : State) : Result :=
  runTor1 parameters (.toria imm) .or w a s

/-- TOR1 TODRA OR: R177, R181. -/
def execTor1TodraOr (w : Width) (a : Reg) (s : State) : Result :=
  runTor1 parameters .todra .or w a s

/-- TOR1 TORAY OR: R177, R182. -/
def execTor1TorayOr (w : Width) (a : Reg) (s : State) : Result :=
  runTor1 parameters .toray .or w a s

/-- TOR1 TORIY OR: R177, R183. -/
def execTor1ToriyOr (w : Width) (a : Reg) (imm : Word) (s : State) : Result :=
  runTor1 parameters (.toriy imm) .or w a s

/-- TOR1 TODRY OR: R177, R184. -/
def execTor1TodryOr (w : Width) (a : Reg) (s : State) : Result :=
  runTor1 parameters .todry .or w a s

/-- TOR1 TORAR OR: R177, R185. -/
def execTor1TorarOr (w : Width) (a : Reg) (s : State) : Result :=
  runTor1 parameters .torar .or w a s

/-- TOR1 TORIR OR: R177, R186. -/
def execTor1TorirOr (w : Width) (a : Reg) (imm : Word) (s : State) : Result :=
  runTor1 parameters (.torir imm) .or w a s

/-- TOR1 TODRR OR: R177, R187. -/
def execTor1TodrrOr (w : Width) (a : Reg) (s : State) : Result :=
  runTor1 parameters .todrr .or w a s

/-- TOR1 TORAA EXNOR: R178, R179. -/
def execTor1ToraaExnor (w : Width) (a : Reg) (s : State) : Result :=
  runTor1 parameters .toraa .exnor w a s

/-- TOR1 TORIA EXNOR: R178, R180. -/
def execTor1ToriaExnor (w : Width) (a : Reg) (imm : Word) (s : State) : Result :=
  runTor1 parameters (.toria imm) .exnor w a s

/-- TOR1 TODRA EXNOR: R178, R181. -/
def execTor1TodraExnor (w : Width) (a : Reg) (s : State) : Result :=
  runTor1 parameters .todra .exnor w a s

/-- TOR1 TORAY EXNOR: R178, R182. -/
def execTor1TorayExnor (w : Width) (a : Reg) (s : State) : Result :=
  runTor1 parameters .toray .exnor w a s

/-- TOR1 TORIY EXNOR: R178, R183. -/
def execTor1ToriyExnor (w : Width) (a : Reg) (imm : Word) (s : State) : Result :=
  runTor1 parameters (.toriy imm) .exnor w a s

/-- TOR1 TODRY EXNOR: R178, R184. -/
def execTor1TodryExnor (w : Width) (a : Reg) (s : State) : Result :=
  runTor1 parameters .todry .exnor w a s

/-- TOR1 TORAR EXNOR: R178, R185. -/
def execTor1TorarExnor (w : Width) (a : Reg) (s : State) : Result :=
  runTor1 parameters .torar .exnor w a s

/-- TOR1 TORIR EXNOR: R178, R186. -/
def execTor1TorirExnor (w : Width) (a : Reg) (imm : Word) (s : State) : Result :=
  runTor1 parameters (.torir imm) .exnor w a s

/-- TOR1 TODRR EXNOR: R178, R187. -/
def execTor1TodrrExnor (w : Width) (a : Reg) (s : State) : Result :=
  runTor1 parameters .todrr .exnor w a s

/-! ## TOR2 -/

/-- TOR2 TODAR SUBR: R167, R188. -/
def execTor2TodarSubr (w : Width) (a : Reg) (s : State) : Result :=
  runTor2 parameters .todar .subr w a s

/-- TOR2 TOAIR SUBR: R167, R189. -/
def execTor2ToairSubr (w : Width) (a : Reg) (imm : Word) (s : State) : Result :=
  runTor2 parameters (.toair imm) .subr w a s

/-- TOR2 TODIR SUBR: R167, R190. -/
def execTor2TodirSubr (w : Width) (a : Reg) (imm : Word) (s : State) : Result :=
  runTor2 parameters (.todir imm) .subr w a s

/-- TOR2 TODAR SUBRC: R168, R188. -/
def execTor2TodarSubrc (w : Width) (a : Reg) (s : State) : Result :=
  runTor2 parameters .todar .subrc w a s

/-- TOR2 TOAIR SUBRC: R168, R189. -/
def execTor2ToairSubrc (w : Width) (a : Reg) (imm : Word) (s : State) : Result :=
  runTor2 parameters (.toair imm) .subrc w a s

/-- TOR2 TODIR SUBRC: R168, R190. -/
def execTor2TodirSubrc (w : Width) (a : Reg) (imm : Word) (s : State) : Result :=
  runTor2 parameters (.todir imm) .subrc w a s

/-- TOR2 TODAR SUBS: R169, R188. -/
def execTor2TodarSubs (w : Width) (a : Reg) (s : State) : Result :=
  runTor2 parameters .todar .subs w a s

/-- TOR2 TOAIR SUBS: R169, R189. -/
def execTor2ToairSubs (w : Width) (a : Reg) (imm : Word) (s : State) : Result :=
  runTor2 parameters (.toair imm) .subs w a s

/-- TOR2 TODIR SUBS: R169, R190. -/
def execTor2TodirSubs (w : Width) (a : Reg) (imm : Word) (s : State) : Result :=
  runTor2 parameters (.todir imm) .subs w a s

/-- TOR2 TODAR SUBSC: R170, R188. -/
def execTor2TodarSubsc (w : Width) (a : Reg) (s : State) : Result :=
  runTor2 parameters .todar .subsc w a s

/-- TOR2 TOAIR SUBSC: R170, R189. -/
def execTor2ToairSubsc (w : Width) (a : Reg) (imm : Word) (s : State) : Result :=
  runTor2 parameters (.toair imm) .subsc w a s

/-- TOR2 TODIR SUBSC: R170, R190. -/
def execTor2TodirSubsc (w : Width) (a : Reg) (imm : Word) (s : State) : Result :=
  runTor2 parameters (.todir imm) .subsc w a s

/-- TOR2 TODAR ADD: R171, R188. -/
def execTor2TodarAdd (w : Width) (a : Reg) (s : State) : Result :=
  runTor2 parameters .todar .add w a s

/-- TOR2 TOAIR ADD: R171, R189. -/
def execTor2ToairAdd (w : Width) (a : Reg) (imm : Word) (s : State) : Result :=
  runTor2 parameters (.toair imm) .add w a s

/-- TOR2 TODIR ADD: R171, R190. -/
def execTor2TodirAdd (w : Width) (a : Reg) (imm : Word) (s : State) : Result :=
  runTor2 parameters (.todir imm) .add w a s

/-- TOR2 TODAR ADDC: R172, R188. -/
def execTor2TodarAddc (w : Width) (a : Reg) (s : State) : Result :=
  runTor2 parameters .todar .addc w a s

/-- TOR2 TOAIR ADDC: R172, R189. -/
def execTor2ToairAddc (w : Width) (a : Reg) (imm : Word) (s : State) : Result :=
  runTor2 parameters (.toair imm) .addc w a s

/-- TOR2 TODIR ADDC: R172, R190. -/
def execTor2TodirAddc (w : Width) (a : Reg) (imm : Word) (s : State) : Result :=
  runTor2 parameters (.todir imm) .addc w a s

/-- TOR2 TODAR AND: R173, R188. -/
def execTor2TodarAnd (w : Width) (a : Reg) (s : State) : Result :=
  runTor2 parameters .todar .and w a s

/-- TOR2 TOAIR AND: R173, R189. -/
def execTor2ToairAnd (w : Width) (a : Reg) (imm : Word) (s : State) : Result :=
  runTor2 parameters (.toair imm) .and w a s

/-- TOR2 TODIR AND: R173, R190. -/
def execTor2TodirAnd (w : Width) (a : Reg) (imm : Word) (s : State) : Result :=
  runTor2 parameters (.todir imm) .and w a s

/-- TOR2 TODAR NAND: R174, R188. -/
def execTor2TodarNand (w : Width) (a : Reg) (s : State) : Result :=
  runTor2 parameters .todar .nand w a s

/-- TOR2 TOAIR NAND: R174, R189. -/
def execTor2ToairNand (w : Width) (a : Reg) (imm : Word) (s : State) : Result :=
  runTor2 parameters (.toair imm) .nand w a s

/-- TOR2 TODIR NAND: R174, R190. -/
def execTor2TodirNand (w : Width) (a : Reg) (imm : Word) (s : State) : Result :=
  runTor2 parameters (.todir imm) .nand w a s

/-- TOR2 TODAR EXOR: R175, R188. -/
def execTor2TodarExor (w : Width) (a : Reg) (s : State) : Result :=
  runTor2 parameters .todar .exor w a s

/-- TOR2 TOAIR EXOR: R175, R189. -/
def execTor2ToairExor (w : Width) (a : Reg) (imm : Word) (s : State) : Result :=
  runTor2 parameters (.toair imm) .exor w a s

/-- TOR2 TODIR EXOR: R175, R190. -/
def execTor2TodirExor (w : Width) (a : Reg) (imm : Word) (s : State) : Result :=
  runTor2 parameters (.todir imm) .exor w a s

/-- TOR2 TODAR NOR: R176, R188. -/
def execTor2TodarNor (w : Width) (a : Reg) (s : State) : Result :=
  runTor2 parameters .todar .nor w a s

/-- TOR2 TOAIR NOR: R176, R189. -/
def execTor2ToairNor (w : Width) (a : Reg) (imm : Word) (s : State) : Result :=
  runTor2 parameters (.toair imm) .nor w a s

/-- TOR2 TODIR NOR: R176, R190. -/
def execTor2TodirNor (w : Width) (a : Reg) (imm : Word) (s : State) : Result :=
  runTor2 parameters (.todir imm) .nor w a s

/-- TOR2 TODAR OR: R177, R188. -/
def execTor2TodarOr (w : Width) (a : Reg) (s : State) : Result :=
  runTor2 parameters .todar .or w a s

/-- TOR2 TOAIR OR: R177, R189. -/
def execTor2ToairOr (w : Width) (a : Reg) (imm : Word) (s : State) : Result :=
  runTor2 parameters (.toair imm) .or w a s

/-- TOR2 TODIR OR: R177, R190. -/
def execTor2TodirOr (w : Width) (a : Reg) (imm : Word) (s : State) : Result :=
  runTor2 parameters (.todir imm) .or w a s

/-- TOR2 TODAR EXNOR: R178, R188. -/
def execTor2TodarExnor (w : Width) (a : Reg) (s : State) : Result :=
  runTor2 parameters .todar .exnor w a s

/-- TOR2 TOAIR EXNOR: R178, R189. -/
def execTor2ToairExnor (w : Width) (a : Reg) (imm : Word) (s : State) : Result :=
  runTor2 parameters (.toair imm) .exnor w a s

/-- TOR2 TODIR EXNOR: R178, R190. -/
def execTor2TodirExnor (w : Width) (a : Reg) (imm : Word) (s : State) : Result :=
  runTor2 parameters (.todir imm) .exnor w a s

/-! ## TONR -/

/-- TONR TODA SUBR NRY: R167, R191, R194. -/
def execTonrTodaSubrNry (w : Width) (s : State) : Result := runTonr parameters .toda .subr .nry w s

/-- TONR TODA SUBR NRA: R167, R191, R194. -/
def execTonrTodaSubrNra (w : Width) (s : State) : Result := runTonr parameters .toda .subr .nra w s

/-- TONR TODA SUBR NRS: R167, R191, R194. -/
def execTonrTodaSubrNrs (w : Width) (s : State) : Result := runTonr parameters .toda .subr .nrs w s

/-- TONR TODA SUBR NRAS: R167, R191, R194. -/
def execTonrTodaSubrNras (w : Width) (s : State) : Result :=
  runTonr parameters .toda .subr .nras w s

/-- TONR TOAI SUBR NRY: R167, R192, R194. -/
def execTonrToaiSubrNry (w : Width) (imm : Word) (s : State) : Result :=
  runTonr parameters (.toai imm) .subr .nry w s

/-- TONR TOAI SUBR NRA: R167, R192, R194. -/
def execTonrToaiSubrNra (w : Width) (imm : Word) (s : State) : Result :=
  runTonr parameters (.toai imm) .subr .nra w s

/-- TONR TOAI SUBR NRS: R167, R192, R194. -/
def execTonrToaiSubrNrs (w : Width) (imm : Word) (s : State) : Result :=
  runTonr parameters (.toai imm) .subr .nrs w s

/-- TONR TOAI SUBR NRAS: R167, R192, R194. -/
def execTonrToaiSubrNras (w : Width) (imm : Word) (s : State) : Result :=
  runTonr parameters (.toai imm) .subr .nras w s

/-- TONR TODI SUBR NRY: R167, R193, R194. -/
def execTonrTodiSubrNry (w : Width) (imm : Word) (s : State) : Result :=
  runTonr parameters (.todi imm) .subr .nry w s

/-- TONR TODI SUBR NRA: R167, R193, R194. -/
def execTonrTodiSubrNra (w : Width) (imm : Word) (s : State) : Result :=
  runTonr parameters (.todi imm) .subr .nra w s

/-- TONR TODI SUBR NRS: R167, R193, R194. -/
def execTonrTodiSubrNrs (w : Width) (imm : Word) (s : State) : Result :=
  runTonr parameters (.todi imm) .subr .nrs w s

/-- TONR TODI SUBR NRAS: R167, R193, R194. -/
def execTonrTodiSubrNras (w : Width) (imm : Word) (s : State) : Result :=
  runTonr parameters (.todi imm) .subr .nras w s

/-- TONR TODA SUBRC NRY: R168, R191, R194. -/
def execTonrTodaSubrcNry (w : Width) (s : State) : Result :=
  runTonr parameters .toda .subrc .nry w s

/-- TONR TODA SUBRC NRA: R168, R191, R194. -/
def execTonrTodaSubrcNra (w : Width) (s : State) : Result :=
  runTonr parameters .toda .subrc .nra w s

/-- TONR TODA SUBRC NRS: R168, R191, R194. -/
def execTonrTodaSubrcNrs (w : Width) (s : State) : Result :=
  runTonr parameters .toda .subrc .nrs w s

/-- TONR TODA SUBRC NRAS: R168, R191, R194. -/
def execTonrTodaSubrcNras (w : Width) (s : State) : Result :=
  runTonr parameters .toda .subrc .nras w s

/-- TONR TOAI SUBRC NRY: R168, R192, R194. -/
def execTonrToaiSubrcNry (w : Width) (imm : Word) (s : State) : Result :=
  runTonr parameters (.toai imm) .subrc .nry w s

/-- TONR TOAI SUBRC NRA: R168, R192, R194. -/
def execTonrToaiSubrcNra (w : Width) (imm : Word) (s : State) : Result :=
  runTonr parameters (.toai imm) .subrc .nra w s

/-- TONR TOAI SUBRC NRS: R168, R192, R194. -/
def execTonrToaiSubrcNrs (w : Width) (imm : Word) (s : State) : Result :=
  runTonr parameters (.toai imm) .subrc .nrs w s

/-- TONR TOAI SUBRC NRAS: R168, R192, R194. -/
def execTonrToaiSubrcNras (w : Width) (imm : Word) (s : State) : Result :=
  runTonr parameters (.toai imm) .subrc .nras w s

/-- TONR TODI SUBRC NRY: R168, R193, R194. -/
def execTonrTodiSubrcNry (w : Width) (imm : Word) (s : State) : Result :=
  runTonr parameters (.todi imm) .subrc .nry w s

/-- TONR TODI SUBRC NRA: R168, R193, R194. -/
def execTonrTodiSubrcNra (w : Width) (imm : Word) (s : State) : Result :=
  runTonr parameters (.todi imm) .subrc .nra w s

/-- TONR TODI SUBRC NRS: R168, R193, R194. -/
def execTonrTodiSubrcNrs (w : Width) (imm : Word) (s : State) : Result :=
  runTonr parameters (.todi imm) .subrc .nrs w s

/-- TONR TODI SUBRC NRAS: R168, R193, R194. -/
def execTonrTodiSubrcNras (w : Width) (imm : Word) (s : State) : Result :=
  runTonr parameters (.todi imm) .subrc .nras w s

/-- TONR TODA SUBS NRY: R169, R191, R194. -/
def execTonrTodaSubsNry (w : Width) (s : State) : Result := runTonr parameters .toda .subs .nry w s

/-- TONR TODA SUBS NRA: R169, R191, R194. -/
def execTonrTodaSubsNra (w : Width) (s : State) : Result := runTonr parameters .toda .subs .nra w s

/-- TONR TODA SUBS NRS: R169, R191, R194. -/
def execTonrTodaSubsNrs (w : Width) (s : State) : Result := runTonr parameters .toda .subs .nrs w s

/-- TONR TODA SUBS NRAS: R169, R191, R194. -/
def execTonrTodaSubsNras (w : Width) (s : State) : Result :=
  runTonr parameters .toda .subs .nras w s

/-- TONR TOAI SUBS NRY: R169, R192, R194. -/
def execTonrToaiSubsNry (w : Width) (imm : Word) (s : State) : Result :=
  runTonr parameters (.toai imm) .subs .nry w s

/-- TONR TOAI SUBS NRA: R169, R192, R194. -/
def execTonrToaiSubsNra (w : Width) (imm : Word) (s : State) : Result :=
  runTonr parameters (.toai imm) .subs .nra w s

/-- TONR TOAI SUBS NRS: R169, R192, R194. -/
def execTonrToaiSubsNrs (w : Width) (imm : Word) (s : State) : Result :=
  runTonr parameters (.toai imm) .subs .nrs w s

/-- TONR TOAI SUBS NRAS: R169, R192, R194. -/
def execTonrToaiSubsNras (w : Width) (imm : Word) (s : State) : Result :=
  runTonr parameters (.toai imm) .subs .nras w s

/-- TONR TODI SUBS NRY: R169, R193, R194. -/
def execTonrTodiSubsNry (w : Width) (imm : Word) (s : State) : Result :=
  runTonr parameters (.todi imm) .subs .nry w s

/-- TONR TODI SUBS NRA: R169, R193, R194. -/
def execTonrTodiSubsNra (w : Width) (imm : Word) (s : State) : Result :=
  runTonr parameters (.todi imm) .subs .nra w s

/-- TONR TODI SUBS NRS: R169, R193, R194. -/
def execTonrTodiSubsNrs (w : Width) (imm : Word) (s : State) : Result :=
  runTonr parameters (.todi imm) .subs .nrs w s

/-- TONR TODI SUBS NRAS: R169, R193, R194. -/
def execTonrTodiSubsNras (w : Width) (imm : Word) (s : State) : Result :=
  runTonr parameters (.todi imm) .subs .nras w s

/-- TONR TODA SUBSC NRY: R170, R191, R194. -/
def execTonrTodaSubscNry (w : Width) (s : State) : Result :=
  runTonr parameters .toda .subsc .nry w s

/-- TONR TODA SUBSC NRA: R170, R191, R194. -/
def execTonrTodaSubscNra (w : Width) (s : State) : Result :=
  runTonr parameters .toda .subsc .nra w s

/-- TONR TODA SUBSC NRS: R170, R191, R194. -/
def execTonrTodaSubscNrs (w : Width) (s : State) : Result :=
  runTonr parameters .toda .subsc .nrs w s

/-- TONR TODA SUBSC NRAS: R170, R191, R194. -/
def execTonrTodaSubscNras (w : Width) (s : State) : Result :=
  runTonr parameters .toda .subsc .nras w s

/-- TONR TOAI SUBSC NRY: R170, R192, R194. -/
def execTonrToaiSubscNry (w : Width) (imm : Word) (s : State) : Result :=
  runTonr parameters (.toai imm) .subsc .nry w s

/-- TONR TOAI SUBSC NRA: R170, R192, R194. -/
def execTonrToaiSubscNra (w : Width) (imm : Word) (s : State) : Result :=
  runTonr parameters (.toai imm) .subsc .nra w s

/-- TONR TOAI SUBSC NRS: R170, R192, R194. -/
def execTonrToaiSubscNrs (w : Width) (imm : Word) (s : State) : Result :=
  runTonr parameters (.toai imm) .subsc .nrs w s

/-- TONR TOAI SUBSC NRAS: R170, R192, R194. -/
def execTonrToaiSubscNras (w : Width) (imm : Word) (s : State) : Result :=
  runTonr parameters (.toai imm) .subsc .nras w s

/-- TONR TODI SUBSC NRY: R170, R193, R194. -/
def execTonrTodiSubscNry (w : Width) (imm : Word) (s : State) : Result :=
  runTonr parameters (.todi imm) .subsc .nry w s

/-- TONR TODI SUBSC NRA: R170, R193, R194. -/
def execTonrTodiSubscNra (w : Width) (imm : Word) (s : State) : Result :=
  runTonr parameters (.todi imm) .subsc .nra w s

/-- TONR TODI SUBSC NRS: R170, R193, R194. -/
def execTonrTodiSubscNrs (w : Width) (imm : Word) (s : State) : Result :=
  runTonr parameters (.todi imm) .subsc .nrs w s

/-- TONR TODI SUBSC NRAS: R170, R193, R194. -/
def execTonrTodiSubscNras (w : Width) (imm : Word) (s : State) : Result :=
  runTonr parameters (.todi imm) .subsc .nras w s

/-- TONR TODA ADD NRY: R171, R191, R194. -/
def execTonrTodaAddNry (w : Width) (s : State) : Result := runTonr parameters .toda .add .nry w s

/-- TONR TODA ADD NRA: R171, R191, R194. -/
def execTonrTodaAddNra (w : Width) (s : State) : Result := runTonr parameters .toda .add .nra w s

/-- TONR TODA ADD NRS: R171, R191, R194. -/
def execTonrTodaAddNrs (w : Width) (s : State) : Result := runTonr parameters .toda .add .nrs w s

/-- TONR TODA ADD NRAS: R171, R191, R194. -/
def execTonrTodaAddNras (w : Width) (s : State) : Result := runTonr parameters .toda .add .nras w s

/-- TONR TOAI ADD NRY: R171, R192, R194. -/
def execTonrToaiAddNry (w : Width) (imm : Word) (s : State) : Result :=
  runTonr parameters (.toai imm) .add .nry w s

/-- TONR TOAI ADD NRA: R171, R192, R194. -/
def execTonrToaiAddNra (w : Width) (imm : Word) (s : State) : Result :=
  runTonr parameters (.toai imm) .add .nra w s

/-- TONR TOAI ADD NRS: R171, R192, R194. -/
def execTonrToaiAddNrs (w : Width) (imm : Word) (s : State) : Result :=
  runTonr parameters (.toai imm) .add .nrs w s

/-- TONR TOAI ADD NRAS: R171, R192, R194. -/
def execTonrToaiAddNras (w : Width) (imm : Word) (s : State) : Result :=
  runTonr parameters (.toai imm) .add .nras w s

/-- TONR TODI ADD NRY: R171, R193, R194. -/
def execTonrTodiAddNry (w : Width) (imm : Word) (s : State) : Result :=
  runTonr parameters (.todi imm) .add .nry w s

/-- TONR TODI ADD NRA: R171, R193, R194. -/
def execTonrTodiAddNra (w : Width) (imm : Word) (s : State) : Result :=
  runTonr parameters (.todi imm) .add .nra w s

/-- TONR TODI ADD NRS: R171, R193, R194. -/
def execTonrTodiAddNrs (w : Width) (imm : Word) (s : State) : Result :=
  runTonr parameters (.todi imm) .add .nrs w s

/-- TONR TODI ADD NRAS: R171, R193, R194. -/
def execTonrTodiAddNras (w : Width) (imm : Word) (s : State) : Result :=
  runTonr parameters (.todi imm) .add .nras w s

/-- TONR TODA ADDC NRY: R172, R191, R194. -/
def execTonrTodaAddcNry (w : Width) (s : State) : Result := runTonr parameters .toda .addc .nry w s

/-- TONR TODA ADDC NRA: R172, R191, R194. -/
def execTonrTodaAddcNra (w : Width) (s : State) : Result := runTonr parameters .toda .addc .nra w s

/-- TONR TODA ADDC NRS: R172, R191, R194. -/
def execTonrTodaAddcNrs (w : Width) (s : State) : Result := runTonr parameters .toda .addc .nrs w s

/-- TONR TODA ADDC NRAS: R172, R191, R194. -/
def execTonrTodaAddcNras (w : Width) (s : State) : Result :=
  runTonr parameters .toda .addc .nras w s

/-- TONR TOAI ADDC NRY: R172, R192, R194. -/
def execTonrToaiAddcNry (w : Width) (imm : Word) (s : State) : Result :=
  runTonr parameters (.toai imm) .addc .nry w s

/-- TONR TOAI ADDC NRA: R172, R192, R194. -/
def execTonrToaiAddcNra (w : Width) (imm : Word) (s : State) : Result :=
  runTonr parameters (.toai imm) .addc .nra w s

/-- TONR TOAI ADDC NRS: R172, R192, R194. -/
def execTonrToaiAddcNrs (w : Width) (imm : Word) (s : State) : Result :=
  runTonr parameters (.toai imm) .addc .nrs w s

/-- TONR TOAI ADDC NRAS: R172, R192, R194. -/
def execTonrToaiAddcNras (w : Width) (imm : Word) (s : State) : Result :=
  runTonr parameters (.toai imm) .addc .nras w s

/-- TONR TODI ADDC NRY: R172, R193, R194. -/
def execTonrTodiAddcNry (w : Width) (imm : Word) (s : State) : Result :=
  runTonr parameters (.todi imm) .addc .nry w s

/-- TONR TODI ADDC NRA: R172, R193, R194. -/
def execTonrTodiAddcNra (w : Width) (imm : Word) (s : State) : Result :=
  runTonr parameters (.todi imm) .addc .nra w s

/-- TONR TODI ADDC NRS: R172, R193, R194. -/
def execTonrTodiAddcNrs (w : Width) (imm : Word) (s : State) : Result :=
  runTonr parameters (.todi imm) .addc .nrs w s

/-- TONR TODI ADDC NRAS: R172, R193, R194. -/
def execTonrTodiAddcNras (w : Width) (imm : Word) (s : State) : Result :=
  runTonr parameters (.todi imm) .addc .nras w s

/-- TONR TODA AND NRY: R173, R191, R194. -/
def execTonrTodaAndNry (w : Width) (s : State) : Result := runTonr parameters .toda .and .nry w s

/-- TONR TODA AND NRA: R173, R191, R194. -/
def execTonrTodaAndNra (w : Width) (s : State) : Result := runTonr parameters .toda .and .nra w s

/-- TONR TODA AND NRS: R173, R191, R194. -/
def execTonrTodaAndNrs (w : Width) (s : State) : Result := runTonr parameters .toda .and .nrs w s

/-- TONR TODA AND NRAS: R173, R191, R194. -/
def execTonrTodaAndNras (w : Width) (s : State) : Result := runTonr parameters .toda .and .nras w s

/-- TONR TOAI AND NRY: R173, R192, R194. -/
def execTonrToaiAndNry (w : Width) (imm : Word) (s : State) : Result :=
  runTonr parameters (.toai imm) .and .nry w s

/-- TONR TOAI AND NRA: R173, R192, R194. -/
def execTonrToaiAndNra (w : Width) (imm : Word) (s : State) : Result :=
  runTonr parameters (.toai imm) .and .nra w s

/-- TONR TOAI AND NRS: R173, R192, R194. -/
def execTonrToaiAndNrs (w : Width) (imm : Word) (s : State) : Result :=
  runTonr parameters (.toai imm) .and .nrs w s

/-- TONR TOAI AND NRAS: R173, R192, R194. -/
def execTonrToaiAndNras (w : Width) (imm : Word) (s : State) : Result :=
  runTonr parameters (.toai imm) .and .nras w s

/-- TONR TODI AND NRY: R173, R193, R194. -/
def execTonrTodiAndNry (w : Width) (imm : Word) (s : State) : Result :=
  runTonr parameters (.todi imm) .and .nry w s

/-- TONR TODI AND NRA: R173, R193, R194. -/
def execTonrTodiAndNra (w : Width) (imm : Word) (s : State) : Result :=
  runTonr parameters (.todi imm) .and .nra w s

/-- TONR TODI AND NRS: R173, R193, R194. -/
def execTonrTodiAndNrs (w : Width) (imm : Word) (s : State) : Result :=
  runTonr parameters (.todi imm) .and .nrs w s

/-- TONR TODI AND NRAS: R173, R193, R194. -/
def execTonrTodiAndNras (w : Width) (imm : Word) (s : State) : Result :=
  runTonr parameters (.todi imm) .and .nras w s

/-- TONR TODA NAND NRY: R174, R191, R194. -/
def execTonrTodaNandNry (w : Width) (s : State) : Result := runTonr parameters .toda .nand .nry w s

/-- TONR TODA NAND NRA: R174, R191, R194. -/
def execTonrTodaNandNra (w : Width) (s : State) : Result := runTonr parameters .toda .nand .nra w s

/-- TONR TODA NAND NRS: R174, R191, R194. -/
def execTonrTodaNandNrs (w : Width) (s : State) : Result := runTonr parameters .toda .nand .nrs w s

/-- TONR TODA NAND NRAS: R174, R191, R194. -/
def execTonrTodaNandNras (w : Width) (s : State) : Result :=
  runTonr parameters .toda .nand .nras w s

/-- TONR TOAI NAND NRY: R174, R192, R194. -/
def execTonrToaiNandNry (w : Width) (imm : Word) (s : State) : Result :=
  runTonr parameters (.toai imm) .nand .nry w s

/-- TONR TOAI NAND NRA: R174, R192, R194. -/
def execTonrToaiNandNra (w : Width) (imm : Word) (s : State) : Result :=
  runTonr parameters (.toai imm) .nand .nra w s

/-- TONR TOAI NAND NRS: R174, R192, R194. -/
def execTonrToaiNandNrs (w : Width) (imm : Word) (s : State) : Result :=
  runTonr parameters (.toai imm) .nand .nrs w s

/-- TONR TOAI NAND NRAS: R174, R192, R194. -/
def execTonrToaiNandNras (w : Width) (imm : Word) (s : State) : Result :=
  runTonr parameters (.toai imm) .nand .nras w s

/-- TONR TODI NAND NRY: R174, R193, R194. -/
def execTonrTodiNandNry (w : Width) (imm : Word) (s : State) : Result :=
  runTonr parameters (.todi imm) .nand .nry w s

/-- TONR TODI NAND NRA: R174, R193, R194. -/
def execTonrTodiNandNra (w : Width) (imm : Word) (s : State) : Result :=
  runTonr parameters (.todi imm) .nand .nra w s

/-- TONR TODI NAND NRS: R174, R193, R194. -/
def execTonrTodiNandNrs (w : Width) (imm : Word) (s : State) : Result :=
  runTonr parameters (.todi imm) .nand .nrs w s

/-- TONR TODI NAND NRAS: R174, R193, R194. -/
def execTonrTodiNandNras (w : Width) (imm : Word) (s : State) : Result :=
  runTonr parameters (.todi imm) .nand .nras w s

/-- TONR TODA EXOR NRY: R175, R191, R194. -/
def execTonrTodaExorNry (w : Width) (s : State) : Result := runTonr parameters .toda .exor .nry w s

/-- TONR TODA EXOR NRA: R175, R191, R194. -/
def execTonrTodaExorNra (w : Width) (s : State) : Result := runTonr parameters .toda .exor .nra w s

/-- TONR TODA EXOR NRS: R175, R191, R194. -/
def execTonrTodaExorNrs (w : Width) (s : State) : Result := runTonr parameters .toda .exor .nrs w s

/-- TONR TODA EXOR NRAS: R175, R191, R194. -/
def execTonrTodaExorNras (w : Width) (s : State) : Result :=
  runTonr parameters .toda .exor .nras w s

/-- TONR TOAI EXOR NRY: R175, R192, R194. -/
def execTonrToaiExorNry (w : Width) (imm : Word) (s : State) : Result :=
  runTonr parameters (.toai imm) .exor .nry w s

/-- TONR TOAI EXOR NRA: R175, R192, R194. -/
def execTonrToaiExorNra (w : Width) (imm : Word) (s : State) : Result :=
  runTonr parameters (.toai imm) .exor .nra w s

/-- TONR TOAI EXOR NRS: R175, R192, R194. -/
def execTonrToaiExorNrs (w : Width) (imm : Word) (s : State) : Result :=
  runTonr parameters (.toai imm) .exor .nrs w s

/-- TONR TOAI EXOR NRAS: R175, R192, R194. -/
def execTonrToaiExorNras (w : Width) (imm : Word) (s : State) : Result :=
  runTonr parameters (.toai imm) .exor .nras w s

/-- TONR TODI EXOR NRY: R175, R193, R194. -/
def execTonrTodiExorNry (w : Width) (imm : Word) (s : State) : Result :=
  runTonr parameters (.todi imm) .exor .nry w s

/-- TONR TODI EXOR NRA: R175, R193, R194. -/
def execTonrTodiExorNra (w : Width) (imm : Word) (s : State) : Result :=
  runTonr parameters (.todi imm) .exor .nra w s

/-- TONR TODI EXOR NRS: R175, R193, R194. -/
def execTonrTodiExorNrs (w : Width) (imm : Word) (s : State) : Result :=
  runTonr parameters (.todi imm) .exor .nrs w s

/-- TONR TODI EXOR NRAS: R175, R193, R194. -/
def execTonrTodiExorNras (w : Width) (imm : Word) (s : State) : Result :=
  runTonr parameters (.todi imm) .exor .nras w s

/-- TONR TODA NOR NRY: R176, R191, R194. -/
def execTonrTodaNorNry (w : Width) (s : State) : Result := runTonr parameters .toda .nor .nry w s

/-- TONR TODA NOR NRA: R176, R191, R194. -/
def execTonrTodaNorNra (w : Width) (s : State) : Result := runTonr parameters .toda .nor .nra w s

/-- TONR TODA NOR NRS: R176, R191, R194. -/
def execTonrTodaNorNrs (w : Width) (s : State) : Result := runTonr parameters .toda .nor .nrs w s

/-- TONR TODA NOR NRAS: R176, R191, R194. -/
def execTonrTodaNorNras (w : Width) (s : State) : Result := runTonr parameters .toda .nor .nras w s

/-- TONR TOAI NOR NRY: R176, R192, R194. -/
def execTonrToaiNorNry (w : Width) (imm : Word) (s : State) : Result :=
  runTonr parameters (.toai imm) .nor .nry w s

/-- TONR TOAI NOR NRA: R176, R192, R194. -/
def execTonrToaiNorNra (w : Width) (imm : Word) (s : State) : Result :=
  runTonr parameters (.toai imm) .nor .nra w s

/-- TONR TOAI NOR NRS: R176, R192, R194. -/
def execTonrToaiNorNrs (w : Width) (imm : Word) (s : State) : Result :=
  runTonr parameters (.toai imm) .nor .nrs w s

/-- TONR TOAI NOR NRAS: R176, R192, R194. -/
def execTonrToaiNorNras (w : Width) (imm : Word) (s : State) : Result :=
  runTonr parameters (.toai imm) .nor .nras w s

/-- TONR TODI NOR NRY: R176, R193, R194. -/
def execTonrTodiNorNry (w : Width) (imm : Word) (s : State) : Result :=
  runTonr parameters (.todi imm) .nor .nry w s

/-- TONR TODI NOR NRA: R176, R193, R194. -/
def execTonrTodiNorNra (w : Width) (imm : Word) (s : State) : Result :=
  runTonr parameters (.todi imm) .nor .nra w s

/-- TONR TODI NOR NRS: R176, R193, R194. -/
def execTonrTodiNorNrs (w : Width) (imm : Word) (s : State) : Result :=
  runTonr parameters (.todi imm) .nor .nrs w s

/-- TONR TODI NOR NRAS: R176, R193, R194. -/
def execTonrTodiNorNras (w : Width) (imm : Word) (s : State) : Result :=
  runTonr parameters (.todi imm) .nor .nras w s

/-- TONR TODA OR NRY: R177, R191, R194. -/
def execTonrTodaOrNry (w : Width) (s : State) : Result := runTonr parameters .toda .or .nry w s

/-- TONR TODA OR NRA: R177, R191, R194. -/
def execTonrTodaOrNra (w : Width) (s : State) : Result := runTonr parameters .toda .or .nra w s

/-- TONR TODA OR NRS: R177, R191, R194. -/
def execTonrTodaOrNrs (w : Width) (s : State) : Result := runTonr parameters .toda .or .nrs w s

/-- TONR TODA OR NRAS: R177, R191, R194. -/
def execTonrTodaOrNras (w : Width) (s : State) : Result := runTonr parameters .toda .or .nras w s

/-- TONR TOAI OR NRY: R177, R192, R194. -/
def execTonrToaiOrNry (w : Width) (imm : Word) (s : State) : Result :=
  runTonr parameters (.toai imm) .or .nry w s

/-- TONR TOAI OR NRA: R177, R192, R194. -/
def execTonrToaiOrNra (w : Width) (imm : Word) (s : State) : Result :=
  runTonr parameters (.toai imm) .or .nra w s

/-- TONR TOAI OR NRS: R177, R192, R194. -/
def execTonrToaiOrNrs (w : Width) (imm : Word) (s : State) : Result :=
  runTonr parameters (.toai imm) .or .nrs w s

/-- TONR TOAI OR NRAS: R177, R192, R194. -/
def execTonrToaiOrNras (w : Width) (imm : Word) (s : State) : Result :=
  runTonr parameters (.toai imm) .or .nras w s

/-- TONR TODI OR NRY: R177, R193, R194. -/
def execTonrTodiOrNry (w : Width) (imm : Word) (s : State) : Result :=
  runTonr parameters (.todi imm) .or .nry w s

/-- TONR TODI OR NRA: R177, R193, R194. -/
def execTonrTodiOrNra (w : Width) (imm : Word) (s : State) : Result :=
  runTonr parameters (.todi imm) .or .nra w s

/-- TONR TODI OR NRS: R177, R193, R194. -/
def execTonrTodiOrNrs (w : Width) (imm : Word) (s : State) : Result :=
  runTonr parameters (.todi imm) .or .nrs w s

/-- TONR TODI OR NRAS: R177, R193, R194. -/
def execTonrTodiOrNras (w : Width) (imm : Word) (s : State) : Result :=
  runTonr parameters (.todi imm) .or .nras w s

/-- TONR TODA EXNOR NRY: R178, R191, R194. -/
def execTonrTodaExnorNry (w : Width) (s : State) : Result :=
  runTonr parameters .toda .exnor .nry w s

/-- TONR TODA EXNOR NRA: R178, R191, R194. -/
def execTonrTodaExnorNra (w : Width) (s : State) : Result :=
  runTonr parameters .toda .exnor .nra w s

/-- TONR TODA EXNOR NRS: R178, R191, R194. -/
def execTonrTodaExnorNrs (w : Width) (s : State) : Result :=
  runTonr parameters .toda .exnor .nrs w s

/-- TONR TODA EXNOR NRAS: R178, R191, R194. -/
def execTonrTodaExnorNras (w : Width) (s : State) : Result :=
  runTonr parameters .toda .exnor .nras w s

/-- TONR TOAI EXNOR NRY: R178, R192, R194. -/
def execTonrToaiExnorNry (w : Width) (imm : Word) (s : State) : Result :=
  runTonr parameters (.toai imm) .exnor .nry w s

/-- TONR TOAI EXNOR NRA: R178, R192, R194. -/
def execTonrToaiExnorNra (w : Width) (imm : Word) (s : State) : Result :=
  runTonr parameters (.toai imm) .exnor .nra w s

/-- TONR TOAI EXNOR NRS: R178, R192, R194. -/
def execTonrToaiExnorNrs (w : Width) (imm : Word) (s : State) : Result :=
  runTonr parameters (.toai imm) .exnor .nrs w s

/-- TONR TOAI EXNOR NRAS: R178, R192, R194. -/
def execTonrToaiExnorNras (w : Width) (imm : Word) (s : State) : Result :=
  runTonr parameters (.toai imm) .exnor .nras w s

/-- TONR TODI EXNOR NRY: R178, R193, R194. -/
def execTonrTodiExnorNry (w : Width) (imm : Word) (s : State) : Result :=
  runTonr parameters (.todi imm) .exnor .nry w s

/-- TONR TODI EXNOR NRA: R178, R193, R194. -/
def execTonrTodiExnorNra (w : Width) (imm : Word) (s : State) : Result :=
  runTonr parameters (.todi imm) .exnor .nra w s

/-- TONR TODI EXNOR NRS: R178, R193, R194. -/
def execTonrTodiExnorNrs (w : Width) (imm : Word) (s : State) : Result :=
  runTonr parameters (.todi imm) .exnor .nrs w s

/-- TONR TODI EXNOR NRAS: R178, R193, R194. -/
def execTonrTodiExnorNras (w : Width) (imm : Word) (s : State) : Result :=
  runTonr parameters (.todi imm) .exnor .nras w s

end Sys2Proof.Machine
end

