-- ==== Sys2Proof/Machine/Configured.lean ====
section
/-! DEFINITION. The machine with the named parameters of R5 as its arguments. The step and the host's
machine are its instance at the defaults (notes/assumptions/39.md). -/

namespace Sys2Proof.Machine

/-- The effect of the instruction of a format under `p`: the shared operation of the format. -/
def runFormat (p : Params) (f : Format) (s : State) : Result :=
  match f with
  | .sor op form w a => runSor p op form w a s
  | .sonr op src dst w => runSonr p op src dst w s
  | .tor1 form op w a => runTor1 p form op w a s
  | .tor2 form op w a => runTor2 p form op w a s
  | .tonr form op dst w => runTonr p form op dst w s
  | .shftr form op w a => runShftr p form op w a s
  | .shftnr src op dst w => runShftnr p src op dst w s
  | .bor1 op w n a => runBor1 p op w n a s
  | .bor2 op w n a => runBor2 p op w n a s
  | .bonr op w n => runBonr p op w n s
  | .rotr1 form w n a => runRotr1 p form w n a s
  | .rotr2 form w n a => runRotr2 p form w n a s
  | .rotnr form w n => runRotnr p form w n s
  | .rotc form w n a => runRotc p form w n a s
  | .rotm form w n a => runRotm p form w n a s
  | .prt1 dst src w a => runPrt1 p dst src w a s
  | .prt2 mask dst w a => runPrt2 p mask dst w a s
  | .prt3 mask src w a => runPrt3 p mask src w a s
  | .prtnr mask src dst w => runPrtnr p mask src dst w s
  | .crcf a => runCrcf p a s
  | .crcr a => runCrcr p a s
  | .setst op => runSetst op s
  | .rstst op => runRstst op s
  | .svstr w a => runSvstr p w a s
  | .svstnr dst w => runSvstnr p dst w s
  | .tstst cond => runTstst p cond s
  | .nop => runNop s

/-- The effect of one instruction under `p`; `exec` is its instance at the defaults of R5. -/
def execWith (p : Params) (i : Instr) (s : State) : Result := runFormat p i.format s

/-- The named parameters of R5, all thirteen: `CODES` and `ROTNR_CODE85` in `codes`, ten in `params`,
and `RESET_STATE`. -/
structure Configuration where
  codes : Codes
  params : Params
  /-- `RESET_STATE` (R5, R32): the values of the state at start. -/
  resetState : State

/-- The defaults of R5; for `RESET_STATE`, which has none, notes/assumptions/1.md. -/
def Configuration.standard : Configuration := ⟨.standard, parameters, .reset⟩

/-- One step (R30, R401, R403) with a given decoder and a given effect of instructions: the host's move
on Рг.D, the instruction at the index, its effect. -/
def stepBy (decoder : List Word → DecodeResult) (effect : Instr → State → Result) (s : State) :
    Result :=
  match decoder s.hostMove.stream with
  | .ok i _ => effect i s.hostMove
  | .undecodable word => .refused (.undecodableWord word)
  | .immediateMissing => .refused .immediateOperandMissing
  | .noWord => .fault .endOfProgram

/-- One step under a configuration; `step` is its instance at the defaults of R5. `noncomputable` as
`step` is (notes/assumptions/16.md). -/
noncomputable def stepWith (c : Configuration) (s : State) : Result :=
  stepBy (decodeWith c.codes) (execWith c.params) s

/-- `ctViaT` under an assignment of codes (R377). -/
def ctViaTWith (c : Codes) (t : BitVec 4) (st : Status) : Option Bool :=
  (TestCond.all.find? fun cond => (c.testCond cond).extractLsb' 1 4 == t).map
    fun cond => testCond cond st

/-- The machine under a configuration, behind the host's interface. -/
noncomputable def coreWith (c : Configuration) : Host.Core :=
  { State := State, Fault := Fault, Refusal := Refusal, step := stepWith c, reset := c.resetState }

end Sys2Proof.Machine
end

