-- ==== Sys2Proof/Machine/Dispatch.lean ====
section
/-! DEFINITION. The meaning of every instruction: one arm per constructor of Instr. -/

namespace Sys2Proof.Machine

/-- The effect of one instruction. -/
def exec (i : Instr) (s : State) : Host.Outcome State Fault Refusal :=
  match i with
  -- SOR (single-operand)
  | .sorMoveSora w a => Sys2Proof.Machine.execSorMoveSora w a s
  | .sorMoveSory w a => Sys2Proof.Machine.execSorMoveSory w a s
  | .sorMoveSors w a => Sys2Proof.Machine.execSorMoveSors w a s
  | .sorMoveSoar w a => Sys2Proof.Machine.execSorMoveSoar w a s
  | .sorMoveSodr w a => Sys2Proof.Machine.execSorMoveSodr w a s
  | .sorMoveSoir w a imm => Sys2Proof.Machine.execSorMoveSoir w a imm s
  | .sorMoveSozr w a => Sys2Proof.Machine.execSorMoveSozr w a s
  | .sorMoveSozer w a => Sys2Proof.Machine.execSorMoveSozer w a s
  | .sorMoveSoser w a => Sys2Proof.Machine.execSorMoveSoser w a s
  | .sorMoveSorr w a => Sys2Proof.Machine.execSorMoveSorr w a s
  | .sorCompSora w a => Sys2Proof.Machine.execSorCompSora w a s
  | .sorCompSory w a => Sys2Proof.Machine.execSorCompSory w a s
  | .sorCompSors w a => Sys2Proof.Machine.execSorCompSors w a s
  | .sorCompSoar w a => Sys2Proof.Machine.execSorCompSoar w a s
  | .sorCompSodr w a => Sys2Proof.Machine.execSorCompSodr w a s
  | .sorCompSoir w a imm => Sys2Proof.Machine.execSorCompSoir w a imm s
  | .sorCompSozr w a => Sys2Proof.Machine.execSorCompSozr w a s
  | .sorCompSozer w a => Sys2Proof.Machine.execSorCompSozer w a s
  | .sorCompSoser w a => Sys2Proof.Machine.execSorCompSoser w a s
  | .sorCompSorr w a => Sys2Proof.Machine.execSorCompSorr w a s
  | .sorIncSora w a => Sys2Proof.Machine.execSorIncSora w a s
  | .sorIncSory w a => Sys2Proof.Machine.execSorIncSory w a s
  | .sorIncSors w a => Sys2Proof.Machine.execSorIncSors w a s
  | .sorIncSoar w a => Sys2Proof.Machine.execSorIncSoar w a s
  | .sorIncSodr w a => Sys2Proof.Machine.execSorIncSodr w a s
  | .sorIncSoir w a imm => Sys2Proof.Machine.execSorIncSoir w a imm s
  | .sorIncSozr w a => Sys2Proof.Machine.execSorIncSozr w a s
  | .sorIncSozer w a => Sys2Proof.Machine.execSorIncSozer w a s
  | .sorIncSoser w a => Sys2Proof.Machine.execSorIncSoser w a s
  | .sorIncSorr w a => Sys2Proof.Machine.execSorIncSorr w a s
  | .sorNegSora w a => Sys2Proof.Machine.execSorNegSora w a s
  | .sorNegSory w a => Sys2Proof.Machine.execSorNegSory w a s
  | .sorNegSors w a => Sys2Proof.Machine.execSorNegSors w a s
  | .sorNegSoar w a => Sys2Proof.Machine.execSorNegSoar w a s
  | .sorNegSodr w a => Sys2Proof.Machine.execSorNegSodr w a s
  | .sorNegSoir w a imm => Sys2Proof.Machine.execSorNegSoir w a imm s
  | .sorNegSozr w a => Sys2Proof.Machine.execSorNegSozr w a s
  | .sorNegSozer w a => Sys2Proof.Machine.execSorNegSozer w a s
  | .sorNegSoser w a => Sys2Proof.Machine.execSorNegSoser w a s
  | .sorNegSorr w a => Sys2Proof.Machine.execSorNegSorr w a s
  -- SONR (single-operand)
  | .sonrMoveSoaNry w => Sys2Proof.Machine.execSonrMoveSoaNry w s
  | .sonrMoveSoaNra w => Sys2Proof.Machine.execSonrMoveSoaNra w s
  | .sonrMoveSoaNrs w => Sys2Proof.Machine.execSonrMoveSoaNrs w s
  | .sonrMoveSoaNras w => Sys2Proof.Machine.execSonrMoveSoaNras w s
  | .sonrMoveSodNry w => Sys2Proof.Machine.execSonrMoveSodNry w s
  | .sonrMoveSodNra w => Sys2Proof.Machine.execSonrMoveSodNra w s
  | .sonrMoveSodNrs w => Sys2Proof.Machine.execSonrMoveSodNrs w s
  | .sonrMoveSodNras w => Sys2Proof.Machine.execSonrMoveSodNras w s
  | .sonrMoveSoiNry w imm => Sys2Proof.Machine.execSonrMoveSoiNry w imm s
  | .sonrMoveSoiNra w imm => Sys2Proof.Machine.execSonrMoveSoiNra w imm s
  | .sonrMoveSoiNrs w imm => Sys2Proof.Machine.execSonrMoveSoiNrs w imm s
  | .sonrMoveSoiNras w imm => Sys2Proof.Machine.execSonrMoveSoiNras w imm s
  | .sonrMoveSozNry w => Sys2Proof.Machine.execSonrMoveSozNry w s
  | .sonrMoveSozNra w => Sys2Proof.Machine.execSonrMoveSozNra w s
  | .sonrMoveSozNrs w => Sys2Proof.Machine.execSonrMoveSozNrs w s
  | .sonrMoveSozNras w => Sys2Proof.Machine.execSonrMoveSozNras w s
  | .sonrMoveSozeNry w => Sys2Proof.Machine.execSonrMoveSozeNry w s
  | .sonrMoveSozeNra w => Sys2Proof.Machine.execSonrMoveSozeNra w s
  | .sonrMoveSozeNrs w => Sys2Proof.Machine.execSonrMoveSozeNrs w s
  | .sonrMoveSozeNras w => Sys2Proof.Machine.execSonrMoveSozeNras w s
  | .sonrMoveSoseNry w => Sys2Proof.Machine.execSonrMoveSoseNry w s
  | .sonrMoveSoseNra w => Sys2Proof.Machine.execSonrMoveSoseNra w s
  | .sonrMoveSoseNrs w => Sys2Proof.Machine.execSonrMoveSoseNrs w s
  | .sonrMoveSoseNras w => Sys2Proof.Machine.execSonrMoveSoseNras w s
  | .sonrCompSoaNry w => Sys2Proof.Machine.execSonrCompSoaNry w s
  | .sonrCompSoaNra w => Sys2Proof.Machine.execSonrCompSoaNra w s
  | .sonrCompSoaNrs w => Sys2Proof.Machine.execSonrCompSoaNrs w s
  | .sonrCompSoaNras w => Sys2Proof.Machine.execSonrCompSoaNras w s
  | .sonrCompSodNry w => Sys2Proof.Machine.execSonrCompSodNry w s
  | .sonrCompSodNra w => Sys2Proof.Machine.execSonrCompSodNra w s
  | .sonrCompSodNrs w => Sys2Proof.Machine.execSonrCompSodNrs w s
  | .sonrCompSodNras w => Sys2Proof.Machine.execSonrCompSodNras w s
  | .sonrCompSoiNry w imm => Sys2Proof.Machine.execSonrCompSoiNry w imm s
  | .sonrCompSoiNra w imm => Sys2Proof.Machine.execSonrCompSoiNra w imm s
  | .sonrCompSoiNrs w imm => Sys2Proof.Machine.execSonrCompSoiNrs w imm s
  | .sonrCompSoiNras w imm => Sys2Proof.Machine.execSonrCompSoiNras w imm s
  | .sonrCompSozNry w => Sys2Proof.Machine.execSonrCompSozNry w s
  | .sonrCompSozNra w => Sys2Proof.Machine.execSonrCompSozNra w s
  | .sonrCompSozNrs w => Sys2Proof.Machine.execSonrCompSozNrs w s
  | .sonrCompSozNras w => Sys2Proof.Machine.execSonrCompSozNras w s
  | .sonrCompSozeNry w => Sys2Proof.Machine.execSonrCompSozeNry w s
  | .sonrCompSozeNra w => Sys2Proof.Machine.execSonrCompSozeNra w s
  | .sonrCompSozeNrs w => Sys2Proof.Machine.execSonrCompSozeNrs w s
  | .sonrCompSozeNras w => Sys2Proof.Machine.execSonrCompSozeNras w s
  | .sonrCompSoseNry w => Sys2Proof.Machine.execSonrCompSoseNry w s
  | .sonrCompSoseNra w => Sys2Proof.Machine.execSonrCompSoseNra w s
  | .sonrCompSoseNrs w => Sys2Proof.Machine.execSonrCompSoseNrs w s
  | .sonrCompSoseNras w => Sys2Proof.Machine.execSonrCompSoseNras w s
  | .sonrIncSoaNry w => Sys2Proof.Machine.execSonrIncSoaNry w s
  | .sonrIncSoaNra w => Sys2Proof.Machine.execSonrIncSoaNra w s
  | .sonrIncSoaNrs w => Sys2Proof.Machine.execSonrIncSoaNrs w s
  | .sonrIncSoaNras w => Sys2Proof.Machine.execSonrIncSoaNras w s
  | .sonrIncSodNry w => Sys2Proof.Machine.execSonrIncSodNry w s
  | .sonrIncSodNra w => Sys2Proof.Machine.execSonrIncSodNra w s
  | .sonrIncSodNrs w => Sys2Proof.Machine.execSonrIncSodNrs w s
  | .sonrIncSodNras w => Sys2Proof.Machine.execSonrIncSodNras w s
  | .sonrIncSoiNry w imm => Sys2Proof.Machine.execSonrIncSoiNry w imm s
  | .sonrIncSoiNra w imm => Sys2Proof.Machine.execSonrIncSoiNra w imm s
  | .sonrIncSoiNrs w imm => Sys2Proof.Machine.execSonrIncSoiNrs w imm s
  | .sonrIncSoiNras w imm => Sys2Proof.Machine.execSonrIncSoiNras w imm s
  | .sonrIncSozNry w => Sys2Proof.Machine.execSonrIncSozNry w s
  | .sonrIncSozNra w => Sys2Proof.Machine.execSonrIncSozNra w s
  | .sonrIncSozNrs w => Sys2Proof.Machine.execSonrIncSozNrs w s
  | .sonrIncSozNras w => Sys2Proof.Machine.execSonrIncSozNras w s
  | .sonrIncSozeNry w => Sys2Proof.Machine.execSonrIncSozeNry w s
  | .sonrIncSozeNra w => Sys2Proof.Machine.execSonrIncSozeNra w s
  | .sonrIncSozeNrs w => Sys2Proof.Machine.execSonrIncSozeNrs w s
  | .sonrIncSozeNras w => Sys2Proof.Machine.execSonrIncSozeNras w s
  | .sonrIncSoseNry w => Sys2Proof.Machine.execSonrIncSoseNry w s
  | .sonrIncSoseNra w => Sys2Proof.Machine.execSonrIncSoseNra w s
  | .sonrIncSoseNrs w => Sys2Proof.Machine.execSonrIncSoseNrs w s
  | .sonrIncSoseNras w => Sys2Proof.Machine.execSonrIncSoseNras w s
  | .sonrNegSoaNry w => Sys2Proof.Machine.execSonrNegSoaNry w s
  | .sonrNegSoaNra w => Sys2Proof.Machine.execSonrNegSoaNra w s
  | .sonrNegSoaNrs w => Sys2Proof.Machine.execSonrNegSoaNrs w s
  | .sonrNegSoaNras w => Sys2Proof.Machine.execSonrNegSoaNras w s
  | .sonrNegSodNry w => Sys2Proof.Machine.execSonrNegSodNry w s
  | .sonrNegSodNra w => Sys2Proof.Machine.execSonrNegSodNra w s
  | .sonrNegSodNrs w => Sys2Proof.Machine.execSonrNegSodNrs w s
  | .sonrNegSodNras w => Sys2Proof.Machine.execSonrNegSodNras w s
  | .sonrNegSoiNry w imm => Sys2Proof.Machine.execSonrNegSoiNry w imm s
  | .sonrNegSoiNra w imm => Sys2Proof.Machine.execSonrNegSoiNra w imm s
  | .sonrNegSoiNrs w imm => Sys2Proof.Machine.execSonrNegSoiNrs w imm s
  | .sonrNegSoiNras w imm => Sys2Proof.Machine.execSonrNegSoiNras w imm s
  | .sonrNegSozNry w => Sys2Proof.Machine.execSonrNegSozNry w s
  | .sonrNegSozNra w => Sys2Proof.Machine.execSonrNegSozNra w s
  | .sonrNegSozNrs w => Sys2Proof.Machine.execSonrNegSozNrs w s
  | .sonrNegSozNras w => Sys2Proof.Machine.execSonrNegSozNras w s
  | .sonrNegSozeNry w => Sys2Proof.Machine.execSonrNegSozeNry w s
  | .sonrNegSozeNra w => Sys2Proof.Machine.execSonrNegSozeNra w s
  | .sonrNegSozeNrs w => Sys2Proof.Machine.execSonrNegSozeNrs w s
  | .sonrNegSozeNras w => Sys2Proof.Machine.execSonrNegSozeNras w s
  | .sonrNegSoseNry w => Sys2Proof.Machine.execSonrNegSoseNry w s
  | .sonrNegSoseNra w => Sys2Proof.Machine.execSonrNegSoseNra w s
  | .sonrNegSoseNrs w => Sys2Proof.Machine.execSonrNegSoseNrs w s
  | .sonrNegSoseNras w => Sys2Proof.Machine.execSonrNegSoseNras w s
  -- TOR1 (two-operand)
  | .tor1ToraaSubr w a => Sys2Proof.Machine.execTor1ToraaSubr w a s
  | .tor1ToriaSubr w a imm => Sys2Proof.Machine.execTor1ToriaSubr w a imm s
  | .tor1TodraSubr w a => Sys2Proof.Machine.execTor1TodraSubr w a s
  | .tor1ToraySubr w a => Sys2Proof.Machine.execTor1ToraySubr w a s
  | .tor1ToriySubr w a imm => Sys2Proof.Machine.execTor1ToriySubr w a imm s
  | .tor1TodrySubr w a => Sys2Proof.Machine.execTor1TodrySubr w a s
  | .tor1TorarSubr w a => Sys2Proof.Machine.execTor1TorarSubr w a s
  | .tor1TorirSubr w a imm => Sys2Proof.Machine.execTor1TorirSubr w a imm s
  | .tor1TodrrSubr w a => Sys2Proof.Machine.execTor1TodrrSubr w a s
  | .tor1ToraaSubrc w a => Sys2Proof.Machine.execTor1ToraaSubrc w a s
  | .tor1ToriaSubrc w a imm => Sys2Proof.Machine.execTor1ToriaSubrc w a imm s
  | .tor1TodraSubrc w a => Sys2Proof.Machine.execTor1TodraSubrc w a s
  | .tor1ToraySubrc w a => Sys2Proof.Machine.execTor1ToraySubrc w a s
  | .tor1ToriySubrc w a imm => Sys2Proof.Machine.execTor1ToriySubrc w a imm s
  | .tor1TodrySubrc w a => Sys2Proof.Machine.execTor1TodrySubrc w a s
  | .tor1TorarSubrc w a => Sys2Proof.Machine.execTor1TorarSubrc w a s
  | .tor1TorirSubrc w a imm => Sys2Proof.Machine.execTor1TorirSubrc w a imm s
  | .tor1TodrrSubrc w a => Sys2Proof.Machine.execTor1TodrrSubrc w a s
  | .tor1ToraaSubs w a => Sys2Proof.Machine.execTor1ToraaSubs w a s
  | .tor1ToriaSubs w a imm => Sys2Proof.Machine.execTor1ToriaSubs w a imm s
  | .tor1TodraSubs w a => Sys2Proof.Machine.execTor1TodraSubs w a s
  | .tor1ToraySubs w a => Sys2Proof.Machine.execTor1ToraySubs w a s
  | .tor1ToriySubs w a imm => Sys2Proof.Machine.execTor1ToriySubs w a imm s
  | .tor1TodrySubs w a => Sys2Proof.Machine.execTor1TodrySubs w a s
  | .tor1TorarSubs w a => Sys2Proof.Machine.execTor1TorarSubs w a s
  | .tor1TorirSubs w a imm => Sys2Proof.Machine.execTor1TorirSubs w a imm s
  | .tor1TodrrSubs w a => Sys2Proof.Machine.execTor1TodrrSubs w a s
  | .tor1ToraaSubsc w a => Sys2Proof.Machine.execTor1ToraaSubsc w a s
  | .tor1ToriaSubsc w a imm => Sys2Proof.Machine.execTor1ToriaSubsc w a imm s
  | .tor1TodraSubsc w a => Sys2Proof.Machine.execTor1TodraSubsc w a s
  | .tor1ToraySubsc w a => Sys2Proof.Machine.execTor1ToraySubsc w a s
  | .tor1ToriySubsc w a imm => Sys2Proof.Machine.execTor1ToriySubsc w a imm s
  | .tor1TodrySubsc w a => Sys2Proof.Machine.execTor1TodrySubsc w a s
  | .tor1TorarSubsc w a => Sys2Proof.Machine.execTor1TorarSubsc w a s
  | .tor1TorirSubsc w a imm => Sys2Proof.Machine.execTor1TorirSubsc w a imm s
  | .tor1TodrrSubsc w a => Sys2Proof.Machine.execTor1TodrrSubsc w a s
  | .tor1ToraaAdd w a => Sys2Proof.Machine.execTor1ToraaAdd w a s
  | .tor1ToriaAdd w a imm => Sys2Proof.Machine.execTor1ToriaAdd w a imm s
  | .tor1TodraAdd w a => Sys2Proof.Machine.execTor1TodraAdd w a s
  | .tor1TorayAdd w a => Sys2Proof.Machine.execTor1TorayAdd w a s
  | .tor1ToriyAdd w a imm => Sys2Proof.Machine.execTor1ToriyAdd w a imm s
  | .tor1TodryAdd w a => Sys2Proof.Machine.execTor1TodryAdd w a s
  | .tor1TorarAdd w a => Sys2Proof.Machine.execTor1TorarAdd w a s
  | .tor1TorirAdd w a imm => Sys2Proof.Machine.execTor1TorirAdd w a imm s
  | .tor1TodrrAdd w a => Sys2Proof.Machine.execTor1TodrrAdd w a s
  | .tor1ToraaAddc w a => Sys2Proof.Machine.execTor1ToraaAddc w a s
  | .tor1ToriaAddc w a imm => Sys2Proof.Machine.execTor1ToriaAddc w a imm s
  | .tor1TodraAddc w a => Sys2Proof.Machine.execTor1TodraAddc w a s
  | .tor1TorayAddc w a => Sys2Proof.Machine.execTor1TorayAddc w a s
  | .tor1ToriyAddc w a imm => Sys2Proof.Machine.execTor1ToriyAddc w a imm s
  | .tor1TodryAddc w a => Sys2Proof.Machine.execTor1TodryAddc w a s
  | .tor1TorarAddc w a => Sys2Proof.Machine.execTor1TorarAddc w a s
  | .tor1TorirAddc w a imm => Sys2Proof.Machine.execTor1TorirAddc w a imm s
  | .tor1TodrrAddc w a => Sys2Proof.Machine.execTor1TodrrAddc w a s
  | .tor1ToraaAnd w a => Sys2Proof.Machine.execTor1ToraaAnd w a s
  | .tor1ToriaAnd w a imm => Sys2Proof.Machine.execTor1ToriaAnd w a imm s
  | .tor1TodraAnd w a => Sys2Proof.Machine.execTor1TodraAnd w a s
  | .tor1TorayAnd w a => Sys2Proof.Machine.execTor1TorayAnd w a s
  | .tor1ToriyAnd w a imm => Sys2Proof.Machine.execTor1ToriyAnd w a imm s
  | .tor1TodryAnd w a => Sys2Proof.Machine.execTor1TodryAnd w a s
  | .tor1TorarAnd w a => Sys2Proof.Machine.execTor1TorarAnd w a s
  | .tor1TorirAnd w a imm => Sys2Proof.Machine.execTor1TorirAnd w a imm s
  | .tor1TodrrAnd w a => Sys2Proof.Machine.execTor1TodrrAnd w a s
  | .tor1ToraaNand w a => Sys2Proof.Machine.execTor1ToraaNand w a s
  | .tor1ToriaNand w a imm => Sys2Proof.Machine.execTor1ToriaNand w a imm s
  | .tor1TodraNand w a => Sys2Proof.Machine.execTor1TodraNand w a s
  | .tor1TorayNand w a => Sys2Proof.Machine.execTor1TorayNand w a s
  | .tor1ToriyNand w a imm => Sys2Proof.Machine.execTor1ToriyNand w a imm s
  | .tor1TodryNand w a => Sys2Proof.Machine.execTor1TodryNand w a s
  | .tor1TorarNand w a => Sys2Proof.Machine.execTor1TorarNand w a s
  | .tor1TorirNand w a imm => Sys2Proof.Machine.execTor1TorirNand w a imm s
  | .tor1TodrrNand w a => Sys2Proof.Machine.execTor1TodrrNand w a s
  | .tor1ToraaExor w a => Sys2Proof.Machine.execTor1ToraaExor w a s
  | .tor1ToriaExor w a imm => Sys2Proof.Machine.execTor1ToriaExor w a imm s
  | .tor1TodraExor w a => Sys2Proof.Machine.execTor1TodraExor w a s
  | .tor1TorayExor w a => Sys2Proof.Machine.execTor1TorayExor w a s
  | .tor1ToriyExor w a imm => Sys2Proof.Machine.execTor1ToriyExor w a imm s
  | .tor1TodryExor w a => Sys2Proof.Machine.execTor1TodryExor w a s
  | .tor1TorarExor w a => Sys2Proof.Machine.execTor1TorarExor w a s
  | .tor1TorirExor w a imm => Sys2Proof.Machine.execTor1TorirExor w a imm s
  | .tor1TodrrExor w a => Sys2Proof.Machine.execTor1TodrrExor w a s
  | .tor1ToraaNor w a => Sys2Proof.Machine.execTor1ToraaNor w a s
  | .tor1ToriaNor w a imm => Sys2Proof.Machine.execTor1ToriaNor w a imm s
  | .tor1TodraNor w a => Sys2Proof.Machine.execTor1TodraNor w a s
  | .tor1TorayNor w a => Sys2Proof.Machine.execTor1TorayNor w a s
  | .tor1ToriyNor w a imm => Sys2Proof.Machine.execTor1ToriyNor w a imm s
  | .tor1TodryNor w a => Sys2Proof.Machine.execTor1TodryNor w a s
  | .tor1TorarNor w a => Sys2Proof.Machine.execTor1TorarNor w a s
  | .tor1TorirNor w a imm => Sys2Proof.Machine.execTor1TorirNor w a imm s
  | .tor1TodrrNor w a => Sys2Proof.Machine.execTor1TodrrNor w a s
  | .tor1ToraaOr w a => Sys2Proof.Machine.execTor1ToraaOr w a s
  | .tor1ToriaOr w a imm => Sys2Proof.Machine.execTor1ToriaOr w a imm s
  | .tor1TodraOr w a => Sys2Proof.Machine.execTor1TodraOr w a s
  | .tor1TorayOr w a => Sys2Proof.Machine.execTor1TorayOr w a s
  | .tor1ToriyOr w a imm => Sys2Proof.Machine.execTor1ToriyOr w a imm s
  | .tor1TodryOr w a => Sys2Proof.Machine.execTor1TodryOr w a s
  | .tor1TorarOr w a => Sys2Proof.Machine.execTor1TorarOr w a s
  | .tor1TorirOr w a imm => Sys2Proof.Machine.execTor1TorirOr w a imm s
  | .tor1TodrrOr w a => Sys2Proof.Machine.execTor1TodrrOr w a s
  | .tor1ToraaExnor w a => Sys2Proof.Machine.execTor1ToraaExnor w a s
  | .tor1ToriaExnor w a imm => Sys2Proof.Machine.execTor1ToriaExnor w a imm s
  | .tor1TodraExnor w a => Sys2Proof.Machine.execTor1TodraExnor w a s
  | .tor1TorayExnor w a => Sys2Proof.Machine.execTor1TorayExnor w a s
  | .tor1ToriyExnor w a imm => Sys2Proof.Machine.execTor1ToriyExnor w a imm s
  | .tor1TodryExnor w a => Sys2Proof.Machine.execTor1TodryExnor w a s
  | .tor1TorarExnor w a => Sys2Proof.Machine.execTor1TorarExnor w a s
  | .tor1TorirExnor w a imm => Sys2Proof.Machine.execTor1TorirExnor w a imm s
  | .tor1TodrrExnor w a => Sys2Proof.Machine.execTor1TodrrExnor w a s
  -- TOR2 (two-operand)
  | .tor2TodarSubr w a => Sys2Proof.Machine.execTor2TodarSubr w a s
  | .tor2ToairSubr w a imm => Sys2Proof.Machine.execTor2ToairSubr w a imm s
  | .tor2TodirSubr w a imm => Sys2Proof.Machine.execTor2TodirSubr w a imm s
  | .tor2TodarSubrc w a => Sys2Proof.Machine.execTor2TodarSubrc w a s
  | .tor2ToairSubrc w a imm => Sys2Proof.Machine.execTor2ToairSubrc w a imm s
  | .tor2TodirSubrc w a imm => Sys2Proof.Machine.execTor2TodirSubrc w a imm s
  | .tor2TodarSubs w a => Sys2Proof.Machine.execTor2TodarSubs w a s
  | .tor2ToairSubs w a imm => Sys2Proof.Machine.execTor2ToairSubs w a imm s
  | .tor2TodirSubs w a imm => Sys2Proof.Machine.execTor2TodirSubs w a imm s
  | .tor2TodarSubsc w a => Sys2Proof.Machine.execTor2TodarSubsc w a s
  | .tor2ToairSubsc w a imm => Sys2Proof.Machine.execTor2ToairSubsc w a imm s
  | .tor2TodirSubsc w a imm => Sys2Proof.Machine.execTor2TodirSubsc w a imm s
  | .tor2TodarAdd w a => Sys2Proof.Machine.execTor2TodarAdd w a s
  | .tor2ToairAdd w a imm => Sys2Proof.Machine.execTor2ToairAdd w a imm s
  | .tor2TodirAdd w a imm => Sys2Proof.Machine.execTor2TodirAdd w a imm s
  | .tor2TodarAddc w a => Sys2Proof.Machine.execTor2TodarAddc w a s
  | .tor2ToairAddc w a imm => Sys2Proof.Machine.execTor2ToairAddc w a imm s
  | .tor2TodirAddc w a imm => Sys2Proof.Machine.execTor2TodirAddc w a imm s
  | .tor2TodarAnd w a => Sys2Proof.Machine.execTor2TodarAnd w a s
  | .tor2ToairAnd w a imm => Sys2Proof.Machine.execTor2ToairAnd w a imm s
  | .tor2TodirAnd w a imm => Sys2Proof.Machine.execTor2TodirAnd w a imm s
  | .tor2TodarNand w a => Sys2Proof.Machine.execTor2TodarNand w a s
  | .tor2ToairNand w a imm => Sys2Proof.Machine.execTor2ToairNand w a imm s
  | .tor2TodirNand w a imm => Sys2Proof.Machine.execTor2TodirNand w a imm s
  | .tor2TodarExor w a => Sys2Proof.Machine.execTor2TodarExor w a s
  | .tor2ToairExor w a imm => Sys2Proof.Machine.execTor2ToairExor w a imm s
  | .tor2TodirExor w a imm => Sys2Proof.Machine.execTor2TodirExor w a imm s
  | .tor2TodarNor w a => Sys2Proof.Machine.execTor2TodarNor w a s
  | .tor2ToairNor w a imm => Sys2Proof.Machine.execTor2ToairNor w a imm s
  | .tor2TodirNor w a imm => Sys2Proof.Machine.execTor2TodirNor w a imm s
  | .tor2TodarOr w a => Sys2Proof.Machine.execTor2TodarOr w a s
  | .tor2ToairOr w a imm => Sys2Proof.Machine.execTor2ToairOr w a imm s
  | .tor2TodirOr w a imm => Sys2Proof.Machine.execTor2TodirOr w a imm s
  | .tor2TodarExnor w a => Sys2Proof.Machine.execTor2TodarExnor w a s
  | .tor2ToairExnor w a imm => Sys2Proof.Machine.execTor2ToairExnor w a imm s
  | .tor2TodirExnor w a imm => Sys2Proof.Machine.execTor2TodirExnor w a imm s
  -- TONR (two-operand)
  | .tonrTodaSubrNry w => Sys2Proof.Machine.execTonrTodaSubrNry w s
  | .tonrTodaSubrNra w => Sys2Proof.Machine.execTonrTodaSubrNra w s
  | .tonrTodaSubrNrs w => Sys2Proof.Machine.execTonrTodaSubrNrs w s
  | .tonrTodaSubrNras w => Sys2Proof.Machine.execTonrTodaSubrNras w s
  | .tonrToaiSubrNry w imm => Sys2Proof.Machine.execTonrToaiSubrNry w imm s
  | .tonrToaiSubrNra w imm => Sys2Proof.Machine.execTonrToaiSubrNra w imm s
  | .tonrToaiSubrNrs w imm => Sys2Proof.Machine.execTonrToaiSubrNrs w imm s
  | .tonrToaiSubrNras w imm => Sys2Proof.Machine.execTonrToaiSubrNras w imm s
  | .tonrTodiSubrNry w imm => Sys2Proof.Machine.execTonrTodiSubrNry w imm s
  | .tonrTodiSubrNra w imm => Sys2Proof.Machine.execTonrTodiSubrNra w imm s
  | .tonrTodiSubrNrs w imm => Sys2Proof.Machine.execTonrTodiSubrNrs w imm s
  | .tonrTodiSubrNras w imm => Sys2Proof.Machine.execTonrTodiSubrNras w imm s
  | .tonrTodaSubrcNry w => Sys2Proof.Machine.execTonrTodaSubrcNry w s
  | .tonrTodaSubrcNra w => Sys2Proof.Machine.execTonrTodaSubrcNra w s
  | .tonrTodaSubrcNrs w => Sys2Proof.Machine.execTonrTodaSubrcNrs w s
  | .tonrTodaSubrcNras w => Sys2Proof.Machine.execTonrTodaSubrcNras w s
  | .tonrToaiSubrcNry w imm => Sys2Proof.Machine.execTonrToaiSubrcNry w imm s
  | .tonrToaiSubrcNra w imm => Sys2Proof.Machine.execTonrToaiSubrcNra w imm s
  | .tonrToaiSubrcNrs w imm => Sys2Proof.Machine.execTonrToaiSubrcNrs w imm s
  | .tonrToaiSubrcNras w imm => Sys2Proof.Machine.execTonrToaiSubrcNras w imm s
  | .tonrTodiSubrcNry w imm => Sys2Proof.Machine.execTonrTodiSubrcNry w imm s
  | .tonrTodiSubrcNra w imm => Sys2Proof.Machine.execTonrTodiSubrcNra w imm s
  | .tonrTodiSubrcNrs w imm => Sys2Proof.Machine.execTonrTodiSubrcNrs w imm s
  | .tonrTodiSubrcNras w imm => Sys2Proof.Machine.execTonrTodiSubrcNras w imm s
  | .tonrTodaSubsNry w => Sys2Proof.Machine.execTonrTodaSubsNry w s
  | .tonrTodaSubsNra w => Sys2Proof.Machine.execTonrTodaSubsNra w s
  | .tonrTodaSubsNrs w => Sys2Proof.Machine.execTonrTodaSubsNrs w s
  | .tonrTodaSubsNras w => Sys2Proof.Machine.execTonrTodaSubsNras w s
  | .tonrToaiSubsNry w imm => Sys2Proof.Machine.execTonrToaiSubsNry w imm s
  | .tonrToaiSubsNra w imm => Sys2Proof.Machine.execTonrToaiSubsNra w imm s
  | .tonrToaiSubsNrs w imm => Sys2Proof.Machine.execTonrToaiSubsNrs w imm s
  | .tonrToaiSubsNras w imm => Sys2Proof.Machine.execTonrToaiSubsNras w imm s
  | .tonrTodiSubsNry w imm => Sys2Proof.Machine.execTonrTodiSubsNry w imm s
  | .tonrTodiSubsNra w imm => Sys2Proof.Machine.execTonrTodiSubsNra w imm s
  | .tonrTodiSubsNrs w imm => Sys2Proof.Machine.execTonrTodiSubsNrs w imm s
  | .tonrTodiSubsNras w imm => Sys2Proof.Machine.execTonrTodiSubsNras w imm s
  | .tonrTodaSubscNry w => Sys2Proof.Machine.execTonrTodaSubscNry w s
  | .tonrTodaSubscNra w => Sys2Proof.Machine.execTonrTodaSubscNra w s
  | .tonrTodaSubscNrs w => Sys2Proof.Machine.execTonrTodaSubscNrs w s
  | .tonrTodaSubscNras w => Sys2Proof.Machine.execTonrTodaSubscNras w s
  | .tonrToaiSubscNry w imm => Sys2Proof.Machine.execTonrToaiSubscNry w imm s
  | .tonrToaiSubscNra w imm => Sys2Proof.Machine.execTonrToaiSubscNra w imm s
  | .tonrToaiSubscNrs w imm => Sys2Proof.Machine.execTonrToaiSubscNrs w imm s
  | .tonrToaiSubscNras w imm => Sys2Proof.Machine.execTonrToaiSubscNras w imm s
  | .tonrTodiSubscNry w imm => Sys2Proof.Machine.execTonrTodiSubscNry w imm s
  | .tonrTodiSubscNra w imm => Sys2Proof.Machine.execTonrTodiSubscNra w imm s
  | .tonrTodiSubscNrs w imm => Sys2Proof.Machine.execTonrTodiSubscNrs w imm s
  | .tonrTodiSubscNras w imm => Sys2Proof.Machine.execTonrTodiSubscNras w imm s
  | .tonrTodaAddNry w => Sys2Proof.Machine.execTonrTodaAddNry w s
  | .tonrTodaAddNra w => Sys2Proof.Machine.execTonrTodaAddNra w s
  | .tonrTodaAddNrs w => Sys2Proof.Machine.execTonrTodaAddNrs w s
  | .tonrTodaAddNras w => Sys2Proof.Machine.execTonrTodaAddNras w s
  | .tonrToaiAddNry w imm => Sys2Proof.Machine.execTonrToaiAddNry w imm s
  | .tonrToaiAddNra w imm => Sys2Proof.Machine.execTonrToaiAddNra w imm s
  | .tonrToaiAddNrs w imm => Sys2Proof.Machine.execTonrToaiAddNrs w imm s
  | .tonrToaiAddNras w imm => Sys2Proof.Machine.execTonrToaiAddNras w imm s
  | .tonrTodiAddNry w imm => Sys2Proof.Machine.execTonrTodiAddNry w imm s
  | .tonrTodiAddNra w imm => Sys2Proof.Machine.execTonrTodiAddNra w imm s
  | .tonrTodiAddNrs w imm => Sys2Proof.Machine.execTonrTodiAddNrs w imm s
  | .tonrTodiAddNras w imm => Sys2Proof.Machine.execTonrTodiAddNras w imm s
  | .tonrTodaAddcNry w => Sys2Proof.Machine.execTonrTodaAddcNry w s
  | .tonrTodaAddcNra w => Sys2Proof.Machine.execTonrTodaAddcNra w s
  | .tonrTodaAddcNrs w => Sys2Proof.Machine.execTonrTodaAddcNrs w s
  | .tonrTodaAddcNras w => Sys2Proof.Machine.execTonrTodaAddcNras w s
  | .tonrToaiAddcNry w imm => Sys2Proof.Machine.execTonrToaiAddcNry w imm s
  | .tonrToaiAddcNra w imm => Sys2Proof.Machine.execTonrToaiAddcNra w imm s
  | .tonrToaiAddcNrs w imm => Sys2Proof.Machine.execTonrToaiAddcNrs w imm s
  | .tonrToaiAddcNras w imm => Sys2Proof.Machine.execTonrToaiAddcNras w imm s
  | .tonrTodiAddcNry w imm => Sys2Proof.Machine.execTonrTodiAddcNry w imm s
  | .tonrTodiAddcNra w imm => Sys2Proof.Machine.execTonrTodiAddcNra w imm s
  | .tonrTodiAddcNrs w imm => Sys2Proof.Machine.execTonrTodiAddcNrs w imm s
  | .tonrTodiAddcNras w imm => Sys2Proof.Machine.execTonrTodiAddcNras w imm s
  | .tonrTodaAndNry w => Sys2Proof.Machine.execTonrTodaAndNry w s
  | .tonrTodaAndNra w => Sys2Proof.Machine.execTonrTodaAndNra w s
  | .tonrTodaAndNrs w => Sys2Proof.Machine.execTonrTodaAndNrs w s
  | .tonrTodaAndNras w => Sys2Proof.Machine.execTonrTodaAndNras w s
  | .tonrToaiAndNry w imm => Sys2Proof.Machine.execTonrToaiAndNry w imm s
  | .tonrToaiAndNra w imm => Sys2Proof.Machine.execTonrToaiAndNra w imm s
  | .tonrToaiAndNrs w imm => Sys2Proof.Machine.execTonrToaiAndNrs w imm s
  | .tonrToaiAndNras w imm => Sys2Proof.Machine.execTonrToaiAndNras w imm s
  | .tonrTodiAndNry w imm => Sys2Proof.Machine.execTonrTodiAndNry w imm s
  | .tonrTodiAndNra w imm => Sys2Proof.Machine.execTonrTodiAndNra w imm s
  | .tonrTodiAndNrs w imm => Sys2Proof.Machine.execTonrTodiAndNrs w imm s
  | .tonrTodiAndNras w imm => Sys2Proof.Machine.execTonrTodiAndNras w imm s
  | .tonrTodaNandNry w => Sys2Proof.Machine.execTonrTodaNandNry w s
  | .tonrTodaNandNra w => Sys2Proof.Machine.execTonrTodaNandNra w s
  | .tonrTodaNandNrs w => Sys2Proof.Machine.execTonrTodaNandNrs w s
  | .tonrTodaNandNras w => Sys2Proof.Machine.execTonrTodaNandNras w s
  | .tonrToaiNandNry w imm => Sys2Proof.Machine.execTonrToaiNandNry w imm s
  | .tonrToaiNandNra w imm => Sys2Proof.Machine.execTonrToaiNandNra w imm s
  | .tonrToaiNandNrs w imm => Sys2Proof.Machine.execTonrToaiNandNrs w imm s
  | .tonrToaiNandNras w imm => Sys2Proof.Machine.execTonrToaiNandNras w imm s
  | .tonrTodiNandNry w imm => Sys2Proof.Machine.execTonrTodiNandNry w imm s
  | .tonrTodiNandNra w imm => Sys2Proof.Machine.execTonrTodiNandNra w imm s
  | .tonrTodiNandNrs w imm => Sys2Proof.Machine.execTonrTodiNandNrs w imm s
  | .tonrTodiNandNras w imm => Sys2Proof.Machine.execTonrTodiNandNras w imm s
  | .tonrTodaExorNry w => Sys2Proof.Machine.execTonrTodaExorNry w s
  | .tonrTodaExorNra w => Sys2Proof.Machine.execTonrTodaExorNra w s
  | .tonrTodaExorNrs w => Sys2Proof.Machine.execTonrTodaExorNrs w s
  | .tonrTodaExorNras w => Sys2Proof.Machine.execTonrTodaExorNras w s
  | .tonrToaiExorNry w imm => Sys2Proof.Machine.execTonrToaiExorNry w imm s
  | .tonrToaiExorNra w imm => Sys2Proof.Machine.execTonrToaiExorNra w imm s
  | .tonrToaiExorNrs w imm => Sys2Proof.Machine.execTonrToaiExorNrs w imm s
  | .tonrToaiExorNras w imm => Sys2Proof.Machine.execTonrToaiExorNras w imm s
  | .tonrTodiExorNry w imm => Sys2Proof.Machine.execTonrTodiExorNry w imm s
  | .tonrTodiExorNra w imm => Sys2Proof.Machine.execTonrTodiExorNra w imm s
  | .tonrTodiExorNrs w imm => Sys2Proof.Machine.execTonrTodiExorNrs w imm s
  | .tonrTodiExorNras w imm => Sys2Proof.Machine.execTonrTodiExorNras w imm s
  | .tonrTodaNorNry w => Sys2Proof.Machine.execTonrTodaNorNry w s
  | .tonrTodaNorNra w => Sys2Proof.Machine.execTonrTodaNorNra w s
  | .tonrTodaNorNrs w => Sys2Proof.Machine.execTonrTodaNorNrs w s
  | .tonrTodaNorNras w => Sys2Proof.Machine.execTonrTodaNorNras w s
  | .tonrToaiNorNry w imm => Sys2Proof.Machine.execTonrToaiNorNry w imm s
  | .tonrToaiNorNra w imm => Sys2Proof.Machine.execTonrToaiNorNra w imm s
  | .tonrToaiNorNrs w imm => Sys2Proof.Machine.execTonrToaiNorNrs w imm s
  | .tonrToaiNorNras w imm => Sys2Proof.Machine.execTonrToaiNorNras w imm s
  | .tonrTodiNorNry w imm => Sys2Proof.Machine.execTonrTodiNorNry w imm s
  | .tonrTodiNorNra w imm => Sys2Proof.Machine.execTonrTodiNorNra w imm s
  | .tonrTodiNorNrs w imm => Sys2Proof.Machine.execTonrTodiNorNrs w imm s
  | .tonrTodiNorNras w imm => Sys2Proof.Machine.execTonrTodiNorNras w imm s
  | .tonrTodaOrNry w => Sys2Proof.Machine.execTonrTodaOrNry w s
  | .tonrTodaOrNra w => Sys2Proof.Machine.execTonrTodaOrNra w s
  | .tonrTodaOrNrs w => Sys2Proof.Machine.execTonrTodaOrNrs w s
  | .tonrTodaOrNras w => Sys2Proof.Machine.execTonrTodaOrNras w s
  | .tonrToaiOrNry w imm => Sys2Proof.Machine.execTonrToaiOrNry w imm s
  | .tonrToaiOrNra w imm => Sys2Proof.Machine.execTonrToaiOrNra w imm s
  | .tonrToaiOrNrs w imm => Sys2Proof.Machine.execTonrToaiOrNrs w imm s
  | .tonrToaiOrNras w imm => Sys2Proof.Machine.execTonrToaiOrNras w imm s
  | .tonrTodiOrNry w imm => Sys2Proof.Machine.execTonrTodiOrNry w imm s
  | .tonrTodiOrNra w imm => Sys2Proof.Machine.execTonrTodiOrNra w imm s
  | .tonrTodiOrNrs w imm => Sys2Proof.Machine.execTonrTodiOrNrs w imm s
  | .tonrTodiOrNras w imm => Sys2Proof.Machine.execTonrTodiOrNras w imm s
  | .tonrTodaExnorNry w => Sys2Proof.Machine.execTonrTodaExnorNry w s
  | .tonrTodaExnorNra w => Sys2Proof.Machine.execTonrTodaExnorNra w s
  | .tonrTodaExnorNrs w => Sys2Proof.Machine.execTonrTodaExnorNrs w s
  | .tonrTodaExnorNras w => Sys2Proof.Machine.execTonrTodaExnorNras w s
  | .tonrToaiExnorNry w imm => Sys2Proof.Machine.execTonrToaiExnorNry w imm s
  | .tonrToaiExnorNra w imm => Sys2Proof.Machine.execTonrToaiExnorNra w imm s
  | .tonrToaiExnorNrs w imm => Sys2Proof.Machine.execTonrToaiExnorNrs w imm s
  | .tonrToaiExnorNras w imm => Sys2Proof.Machine.execTonrToaiExnorNras w imm s
  | .tonrTodiExnorNry w imm => Sys2Proof.Machine.execTonrTodiExnorNry w imm s
  | .tonrTodiExnorNra w imm => Sys2Proof.Machine.execTonrTodiExnorNra w imm s
  | .tonrTodiExnorNrs w imm => Sys2Proof.Machine.execTonrTodiExnorNrs w imm s
  | .tonrTodiExnorNras w imm => Sys2Proof.Machine.execTonrTodiExnorNras w imm s
  -- SHFTR (single-bit shift)
  | .shftrShrrShupz w a => Sys2Proof.Machine.execShftrShrrShupz w a s
  | .shftrShdrShupz w a => Sys2Proof.Machine.execShftrShdrShupz w a s
  | .shftrShrrShup1 w a => Sys2Proof.Machine.execShftrShrrShup1 w a s
  | .shftrShdrShup1 w a => Sys2Proof.Machine.execShftrShdrShup1 w a s
  | .shftrShrrShupl w a => Sys2Proof.Machine.execShftrShrrShupl w a s
  | .shftrShdrShupl w a => Sys2Proof.Machine.execShftrShdrShupl w a s
  | .shftrShrrShdnz w a => Sys2Proof.Machine.execShftrShrrShdnz w a s
  | .shftrShdrShdnz w a => Sys2Proof.Machine.execShftrShdrShdnz w a s
  | .shftrShrrShdn1 w a => Sys2Proof.Machine.execShftrShrrShdn1 w a s
  | .shftrShdrShdn1 w a => Sys2Proof.Machine.execShftrShdrShdn1 w a s
  | .shftrShrrShdnl w a => Sys2Proof.Machine.execShftrShrrShdnl w a s
  | .shftrShdrShdnl w a => Sys2Proof.Machine.execShftrShdrShdnl w a s
  | .shftrShrrShdnc w a => Sys2Proof.Machine.execShftrShrrShdnc w a s
  | .shftrShdrShdnc w a => Sys2Proof.Machine.execShftrShdrShdnc w a s
  | .shftrShrrShdnov w a => Sys2Proof.Machine.execShftrShrrShdnov w a s
  | .shftrShdrShdnov w a => Sys2Proof.Machine.execShftrShdrShdnov w a s
  -- SHFTNR (single-bit shift)
  | .shftnrShaShupzNry w => Sys2Proof.Machine.execShftnrShaShupzNry w s
  | .shftnrShaShupzNra w => Sys2Proof.Machine.execShftnrShaShupzNra w s
  | .shftnrShdShupzNry w => Sys2Proof.Machine.execShftnrShdShupzNry w s
  | .shftnrShdShupzNra w => Sys2Proof.Machine.execShftnrShdShupzNra w s
  | .shftnrShaShup1Nry w => Sys2Proof.Machine.execShftnrShaShup1Nry w s
  | .shftnrShaShup1Nra w => Sys2Proof.Machine.execShftnrShaShup1Nra w s
  | .shftnrShdShup1Nry w => Sys2Proof.Machine.execShftnrShdShup1Nry w s
  | .shftnrShdShup1Nra w => Sys2Proof.Machine.execShftnrShdShup1Nra w s
  | .shftnrShaShuplNry w => Sys2Proof.Machine.execShftnrShaShuplNry w s
  | .shftnrShaShuplNra w => Sys2Proof.Machine.execShftnrShaShuplNra w s
  | .shftnrShdShuplNry w => Sys2Proof.Machine.execShftnrShdShuplNry w s
  | .shftnrShdShuplNra w => Sys2Proof.Machine.execShftnrShdShuplNra w s
  | .shftnrShaShdnzNry w => Sys2Proof.Machine.execShftnrShaShdnzNry w s
  | .shftnrShaShdnzNra w => Sys2Proof.Machine.execShftnrShaShdnzNra w s
  | .shftnrShdShdnzNry w => Sys2Proof.Machine.execShftnrShdShdnzNry w s
  | .shftnrShdShdnzNra w => Sys2Proof.Machine.execShftnrShdShdnzNra w s
  | .shftnrShaShdn1Nry w => Sys2Proof.Machine.execShftnrShaShdn1Nry w s
  | .shftnrShaShdn1Nra w => Sys2Proof.Machine.execShftnrShaShdn1Nra w s
  | .shftnrShdShdn1Nry w => Sys2Proof.Machine.execShftnrShdShdn1Nry w s
  | .shftnrShdShdn1Nra w => Sys2Proof.Machine.execShftnrShdShdn1Nra w s
  | .shftnrShaShdnlNry w => Sys2Proof.Machine.execShftnrShaShdnlNry w s
  | .shftnrShaShdnlNra w => Sys2Proof.Machine.execShftnrShaShdnlNra w s
  | .shftnrShdShdnlNry w => Sys2Proof.Machine.execShftnrShdShdnlNry w s
  | .shftnrShdShdnlNra w => Sys2Proof.Machine.execShftnrShdShdnlNra w s
  | .shftnrShaShdncNry w => Sys2Proof.Machine.execShftnrShaShdncNry w s
  | .shftnrShaShdncNra w => Sys2Proof.Machine.execShftnrShaShdncNra w s
  | .shftnrShdShdncNry w => Sys2Proof.Machine.execShftnrShdShdncNry w s
  | .shftnrShdShdncNra w => Sys2Proof.Machine.execShftnrShdShdncNra w s
  | .shftnrShaShdnovNry w => Sys2Proof.Machine.execShftnrShaShdnovNry w s
  | .shftnrShaShdnovNra w => Sys2Proof.Machine.execShftnrShaShdnovNra w s
  | .shftnrShdShdnovNry w => Sys2Proof.Machine.execShftnrShdShdnovNry w s
  | .shftnrShdShdnovNra w => Sys2Proof.Machine.execShftnrShdShdnovNra w s
  -- BOR1 (bit)
  | .bor1Setnr w n a => Sys2Proof.Machine.execBor1Setnr w n a s
  | .bor1Rstnr w n a => Sys2Proof.Machine.execBor1Rstnr w n a s
  | .bor1Tstnr w n a => Sys2Proof.Machine.execBor1Tstnr w n a s
  -- BOR2 (bit)
  | .bor2Ld2nr w n a => Sys2Proof.Machine.execBor2Ld2nr w n a s
  | .bor2Ldc2nr w n a => Sys2Proof.Machine.execBor2Ldc2nr w n a s
  | .bor2A2nr w n a => Sys2Proof.Machine.execBor2A2nr w n a s
  | .bor2S2nr w n a => Sys2Proof.Machine.execBor2S2nr w n a s
  -- BONR (bit)
  | .bonrTstna w n => Sys2Proof.Machine.execBonrTstna w n s
  | .bonrRstna w n => Sys2Proof.Machine.execBonrRstna w n s
  | .bonrSetna w n => Sys2Proof.Machine.execBonrSetna w n s
  | .bonrA2na w n => Sys2Proof.Machine.execBonrA2na w n s
  | .bonrS2na w n => Sys2Proof.Machine.execBonrS2na w n s
  | .bonrLd2na w n => Sys2Proof.Machine.execBonrLd2na w n s
  | .bonrLdc2na w n => Sys2Proof.Machine.execBonrLdc2na w n s
  | .bonrTstnd w n => Sys2Proof.Machine.execBonrTstnd w n s
  | .bonrRstnd w n => Sys2Proof.Machine.execBonrRstnd w n s
  | .bonrSetnd w n => Sys2Proof.Machine.execBonrSetnd w n s
  | .bonrA2ndy w n => Sys2Proof.Machine.execBonrA2ndy w n s
  | .bonrS2ndy w n => Sys2Proof.Machine.execBonrS2ndy w n s
  | .bonrLd2ny w n => Sys2Proof.Machine.execBonrLd2ny w n s
  | .bonrLdc2ny w n => Sys2Proof.Machine.execBonrLdc2ny w n s
  -- ROTR1 (rotate by n)
  | .rotr1Rtra w n a => Sys2Proof.Machine.execRotr1Rtra w n a s
  | .rotr1Rtry w n a => Sys2Proof.Machine.execRotr1Rtry w n a s
  | .rotr1Rtrr w n a => Sys2Proof.Machine.execRotr1Rtrr w n a s
  -- ROTR2 (rotate by n)
  | .rotr2Rtar w n a => Sys2Proof.Machine.execRotr2Rtar w n a s
  | .rotr2Rtdr w n a => Sys2Proof.Machine.execRotr2Rtdr w n a s
  -- ROTNR (rotate by n)
  | .rotnrRtdy w n => Sys2Proof.Machine.execRotnrRtdy w n s
  | .rotnrRtda w n => Sys2Proof.Machine.execRotnrRtda w n s
  | .rotnrRtay w n => Sys2Proof.Machine.execRotnrRtay w n s
  | .rotnrRtaa w n => Sys2Proof.Machine.execRotnrRtaa w n s
  -- ROTC (rotate and compare)
  | .rotcCdai w n a imm => Sys2Proof.Machine.execRotcCdai w n a imm s
  | .rotcCdri w n a imm => Sys2Proof.Machine.execRotcCdri w n a imm s
  | .rotcCdra w n a => Sys2Proof.Machine.execRotcCdra w n a s
  | .rotcCrai w n a imm => Sys2Proof.Machine.execRotcCrai w n a imm s
  -- ROTM (rotate and merge)
  | .rotmMdai w n a imm => Sys2Proof.Machine.execRotmMdai w n a imm s
  | .rotmMdar w n a => Sys2Proof.Machine.execRotmMdar w n a s
  | .rotmMdri w n a imm => Sys2Proof.Machine.execRotmMdri w n a imm s
  | .rotmMdra w n a => Sys2Proof.Machine.execRotmMdra w n a s
  | .rotmMari w n a imm => Sys2Proof.Machine.execRotmMari w n a imm s
  | .rotmMrai w n a imm => Sys2Proof.Machine.execRotmMrai w n a imm s
  -- PRT1 (prioritize)
  | .prt1Pr1aPrt1a w a => Sys2Proof.Machine.execPrt1Pr1aPrt1a w a s
  | .prt1Pr1aPrt1d w a => Sys2Proof.Machine.execPrt1Pr1aPrt1d w a s
  | .prt1Pr1yPrt1a w a => Sys2Proof.Machine.execPrt1Pr1yPrt1a w a s
  | .prt1Pr1yPrt1d w a => Sys2Proof.Machine.execPrt1Pr1yPrt1d w a s
  | .prt1Pr1rPrt1a w a => Sys2Proof.Machine.execPrt1Pr1rPrt1a w a s
  | .prt1Pr1rPrt1d w a => Sys2Proof.Machine.execPrt1Pr1rPrt1d w a s
  -- PRT2 (prioritize)
  | .prt2PraPr2a w a => Sys2Proof.Machine.execPrt2PraPr2a w a s
  | .prt2PraPr2y w a => Sys2Proof.Machine.execPrt2PraPr2y w a s
  | .prt2PrzPr2a w a => Sys2Proof.Machine.execPrt2PrzPr2a w a s
  | .prt2PrzPr2y w a => Sys2Proof.Machine.execPrt2PrzPr2y w a s
  | .prt2PriPr2a w a imm => Sys2Proof.Machine.execPrt2PriPr2a w a imm s
  | .prt2PriPr2y w a imm => Sys2Proof.Machine.execPrt2PriPr2y w a imm s
  -- PRT3 (prioritize)
  | .prt3PraPr3r w a => Sys2Proof.Machine.execPrt3PraPr3r w a s
  | .prt3PraPr3a w a => Sys2Proof.Machine.execPrt3PraPr3a w a s
  | .prt3PraPr3d w a => Sys2Proof.Machine.execPrt3PraPr3d w a s
  | .prt3PrzPr3r w a => Sys2Proof.Machine.execPrt3PrzPr3r w a s
  | .prt3PrzPr3a w a => Sys2Proof.Machine.execPrt3PrzPr3a w a s
  | .prt3PrzPr3d w a => Sys2Proof.Machine.execPrt3PrzPr3d w a s
  | .prt3PriPr3r w a imm => Sys2Proof.Machine.execPrt3PriPr3r w a imm s
  | .prt3PriPr3a w a imm => Sys2Proof.Machine.execPrt3PriPr3a w a imm s
  | .prt3PriPr3d w a imm => Sys2Proof.Machine.execPrt3PriPr3d w a imm s
  -- PRTNR (prioritize)
  | .prtnrPraPrtaNry w => Sys2Proof.Machine.execPrtnrPraPrtaNry w s
  | .prtnrPraPrtaNra w => Sys2Proof.Machine.execPrtnrPraPrtaNra w s
  | .prtnrPraPrtdNry w => Sys2Proof.Machine.execPrtnrPraPrtdNry w s
  | .prtnrPraPrtdNra w => Sys2Proof.Machine.execPrtnrPraPrtdNra w s
  | .prtnrPrzPrtaNry w => Sys2Proof.Machine.execPrtnrPrzPrtaNry w s
  | .prtnrPrzPrtaNra w => Sys2Proof.Machine.execPrtnrPrzPrtaNra w s
  | .prtnrPrzPrtdNry w => Sys2Proof.Machine.execPrtnrPrzPrtdNry w s
  | .prtnrPrzPrtdNra w => Sys2Proof.Machine.execPrtnrPrzPrtdNra w s
  | .prtnrPriPrtaNry w imm => Sys2Proof.Machine.execPrtnrPriPrtaNry w imm s
  | .prtnrPriPrtaNra w imm => Sys2Proof.Machine.execPrtnrPriPrtaNra w imm s
  | .prtnrPriPrtdNry w imm => Sys2Proof.Machine.execPrtnrPriPrtdNry w imm s
  | .prtnrPriPrtdNra w imm => Sys2Proof.Machine.execPrtnrPriPrtdNra w imm s
  -- CRCF (cyclic redundancy code)
  | .crcf a => Sys2Proof.Machine.execCrcf a s
  -- CRCR (cyclic redundancy code)
  | .crcr a => Sys2Proof.Machine.execCrcr a s
  -- SETST (status set, reset and save)
  | .setstSonccz => Sys2Proof.Machine.execSetstSonccz s
  | .setstSl => Sys2Proof.Machine.execSetstSl s
  | .setstSf1 => Sys2Proof.Machine.execSetstSf1 s
  | .setstSf2 => Sys2Proof.Machine.execSetstSf2 s
  | .setstSf3 => Sys2Proof.Machine.execSetstSf3 s
  -- RSTST (status set, reset and save)
  | .rststRonccz => Sys2Proof.Machine.execRststRonccz s
  | .rststRl => Sys2Proof.Machine.execRststRl s
  | .rststRf1 => Sys2Proof.Machine.execRststRf1 s
  | .rststRf2 => Sys2Proof.Machine.execRststRf2 s
  | .rststRf3 => Sys2Proof.Machine.execRststRf3 s
  -- SVSTR (status set, reset and save)
  | .svstr w a => Sys2Proof.Machine.execSvstr w a s
  -- SVSTNR (status set, reset and save)
  | .svstnrNry w => Sys2Proof.Machine.execSvstnrNry w s
  | .svstnrNra w => Sys2Proof.Machine.execSvstnrNra w s
  -- TSTST (status test)
  | .tststTnoz => Sys2Proof.Machine.execTststTnoz s
  | .tststTno => Sys2Proof.Machine.execTststTno s
  | .tststTz => Sys2Proof.Machine.execTststTz s
  | .tststTovr => Sys2Proof.Machine.execTststTovr s
  | .tststTlow => Sys2Proof.Machine.execTststTlow s
  | .tststTc => Sys2Proof.Machine.execTststTc s
  | .tststTzc => Sys2Proof.Machine.execTststTzc s
  | .tststTn => Sys2Proof.Machine.execTststTn s
  | .tststTl => Sys2Proof.Machine.execTststTl s
  | .tststTf1 => Sys2Proof.Machine.execTststTf1 s
  | .tststTf2 => Sys2Proof.Machine.execTststTf2 s
  | .tststTf3 => Sys2Proof.Machine.execTststTf3 s
  -- NOP (no operation)
  | .nop => Sys2Proof.Machine.execNop s

end Sys2Proof.Machine
end

