-- ==== Sys2Proof/Machine/Step.lean ====
section
/-! DEFINITION. One step of the machine: the host's move, then one instruction of the stream. -/

namespace Sys2Proof.Machine

/-- One step (R30, R401, R403), at the defaults of R5: the host's move on Рг.D, the instruction at the
index, its effect. `noncomputable` only because Lean's runtime has no room for the constructors of Instr
(notes/assumptions/16.md); the kernel evaluates it. -/
noncomputable def step (s : State) : Host.Outcome State Fault Refusal := stepBy decode exec s

/-- The instruction word of an opcode-table word of `nbits` bits and the word after it (zero above
`nbits`) placed in the stream where the next step reads (notes/assumptions/15.md). -/
def State.withFetchWord (s : State) (nbits w : Nat) : State :=
  s.withStream [BitVec.ofNat 16 (w % 2 ^ nbits), BitVec.ofNat 16 (w % 2 ^ nbits / 2 ^ 16)]

end Sys2Proof.Machine
end

