-- ==== Sys2Proof/WellFormed.lean ====
section
/-! DEFINITION. Well-formed instructions: those with a row in the opcode table that no rule restricts.
The widths of W, n, a and the immediate word are in their types. -/

namespace Sys2Proof

/-- In byte mode the bit number of a bit instruction is 0 to 7 (R233). -/
def bitNumberFits (w : Width) (n : BitNo) : Bool :=
  match w with
  | .word => true
  | .byte => decide (n.toNat < 8)

/-- Operand and mask of PRT3 come from different sources (R316). -/
def prt3SourcesDiffer (mask : PrtMask) (src : Prt3Source) : Bool :=
  match mask, src with
  | .pra, .pr3a => false
  | .pra, .pr3r | .pra, .pr3d | .prz, _ | .pri _, _ => true

/-- Operand and mask of PRTNR come from different sources (R316). -/
def prtnrSourcesDiffer (mask : PrtMask) (src : PrtnrSource) : Bool :=
  match mask, src with
  | .pra, .prta => false
  | .pra, .prtd | .prz, _ | .pri _, _ => true

/-- The restrictions of R233 and R316. -/
def Format.wellFormed (f : Format) : Bool :=
  match f with
  | .bor1 _ w n _ => bitNumberFits w n
  | .bor2 _ w n _ => bitNumberFits w n
  | .bonr _ w n => bitNumberFits w n
  | .prt3 mask src _ _ => prt3SourcesDiffer mask src
  | .prtnr mask src _ _ => prtnrSourcesDiffer mask src
  | .sor _ _ _ _ | .sonr _ _ _ _ | .tor1 _ _ _ _ | .tor2 _ _ _ _ | .tonr _ _ _ _
  | .shftr _ _ _ _ | .shftnr _ _ _ _ | .rotr1 _ _ _ _ | .rotr2 _ _ _ _ | .rotnr _ _ _
  | .rotc _ _ _ _ | .rotm _ _ _ _ | .prt1 _ _ _ _ | .prt2 _ _ _ _ | .crcf _ | .crcr _
  | .setst _ | .rstst _ | .svstr _ _ | .svstnr _ _ | .tstst _ | .nop => true

/-- An instruction no rule restricts. -/
def Instr.wellFormed (i : Instr) : Bool := i.format.wellFormed

end Sys2Proof
end

