-- ==== Sys2Proof/Claims.lean ====
section
/-! DEFINITION. The terms the statements use: the operand tables of the spec transcribed a second time,
apart from Machine/Operands.lean, and what an instruction writes and leaves alone. -/

namespace Sys2Proof.Claims

open Sys2Proof.Machine

noncomputable section

/-! ## What an instruction writes -/

/-- РгС after a load of the result `r` (R35 at the bits of R23): all eight bits in word mode, the low
four in byte mode. -/
def loaded (w : Width) (r : BitVec w.bits) (st : Status) : Status :=
  match w with
  | .word => ⟨r.getLsbD 7, r.getLsbD 6, r.getLsbD 5, r.getLsbD 4, r.getLsbD 3, r.getLsbD 2,
      r.getLsbD 1, r.getLsbD 0⟩
  | .byte => { st with n := r.getLsbD 3, ovr := r.getLsbD 2, c := r.getLsbD 1, z := r.getLsbD 0 }

/-- The result `r` of a width-`w` instruction goes from `s` to `t`: to the Y bus, to the destination
(and to no other register), РгС becomes `flags` or is loaded where it is a destination, and the index
moves past the instruction's words. Рг.D, the stream and the host's moves stay. Y[15:8] in byte mode
and CT are draws: nothing is said of them. -/
def Delivers (w : Width) (dst : Dst) (r : BitVec w.bits) (flags : Status) (words : Nat)
    (s t : State) : Prop :=
  loW w t.y = r ∧
  t.acc = (if dst = .acc ∨ dst = .accSt then writeW w s.acc r else s.acc) ∧
  (∀ b : Reg, t.reg b = if dst = .reg b then writeW w (s.reg b) r else s.reg b) ∧
  t.d = s.d ∧
  t.st = (if dst = .st ∨ dst = .accSt then loaded w r s.st else flags) ∧
  t.ip = s.ip + words ∧ t.prog = s.prog ∧ t.dFeed = s.dFeed

/-- An instruction completes with the result `r` and the flags `flags`. -/
def Gives (i : Instr) (w : Width) (dst : Dst) (r : BitVec w.bits) (flags : Status) (words : Nat)
    (s : State) : Prop :=
  ∃ t, exec i s = .next t ∧ Delivers w dst r flags words s t

/-- The flags of a result with carry `c` and overflow `ovr`; L and FL1 to FL3 stay. -/
def flagsOf {k : Nat} (r : BitVec k) (c ovr : Bool) (st : Status) : Status :=
  { st with n := r.getLsbD (k - 1), z := decide (r = 0), c := c, ovr := ovr }

/-- Whether an integer is outside the two's-complement range of `k` bits. -/
def outOfRange (k : Nat) (v : Int) : Bool := decide (v < -2 ^ (k - 1) ∨ 2 ^ (k - 1) ≤ v)

/-! ## The operand tables of the spec -/

/-- A row of Табл. 10.10 or 10.11: the instruction for each operation, the source value, the
destination, the number of words. -/
structure SingleRow where
  instr : SingleOp → Instr
  src : Word
  dst : Dst
  words : Nat

/-- Рг.D.0 (R22). -/
def dZero (s : State) : Word := 0x00#8 ++ s.d.extractLsb' 0 8

/-- Рг.D.S (R22). -/
def dSign (s : State) : Word :=
  (if s.d.getLsbD 7 then 0xFF#8 else 0x00#8) ++ s.d.extractLsb' 0 8

/-- The forms of SOR (R128 to R137). -/
def sorRows (w : Width) (a : Reg) (imm : Word) (s : State) : List SingleRow :=
  [⟨fun op => sorInstr op .sora w a, s.reg a, .acc, 1⟩,
   ⟨fun op => sorInstr op .sory w a, s.reg a, .y, 1⟩,
   ⟨fun op => sorInstr op .sors w a, s.reg a, .st, 1⟩,
   ⟨fun op => sorInstr op .soar w a, s.acc, .reg a, 1⟩,
   ⟨fun op => sorInstr op .sodr w a, s.d, .reg a, 1⟩,
   ⟨fun op => sorInstr op (.soir imm) w a, imm, .reg a, 2⟩,
   ⟨fun op => sorInstr op .sozr w a, 0, .reg a, 1⟩,
   ⟨fun op => sorInstr op .sozer w a, dZero s, .reg a, 1⟩,
   ⟨fun op => sorInstr op .soser w a, dSign s, .reg a, 1⟩,
   ⟨fun op => sorInstr op .sorr w a, s.reg a, .reg a, 1⟩]

/-- The sources of SONR (R138 to R143) with one destination. -/
def sonrRowsTo (sel : NrDest) (dst : Dst) (w : Width) (imm : Word) (s : State) : List SingleRow :=
  [⟨fun op => sonrInstr op .soa sel w, s.acc, dst, 1⟩,
   ⟨fun op => sonrInstr op .sod sel w, s.d, dst, 1⟩,
   ⟨fun op => sonrInstr op (.soi imm) sel w, imm, dst, 2⟩,
   ⟨fun op => sonrInstr op .soz sel w, 0, dst, 1⟩,
   ⟨fun op => sonrInstr op .soze sel w, dZero s, dst, 1⟩,
   ⟨fun op => sonrInstr op .sose sel w, dSign s, dst, 1⟩]

/-- Every form of SOR and SONR (R128 to R147). -/
def singleRows (w : Width) (a : Reg) (imm : Word) (s : State) : List SingleRow :=
  sorRows w a imm s ++ sonrRowsTo .nry .y w imm s ++ sonrRowsTo .nra .acc w imm s
    ++ sonrRowsTo .nrs .st w imm s ++ sonrRowsTo .nras .accSt w imm s

/-- A row of Табл. 10.12 or 10.13: the instruction for each operation, R, S, the destination, the
number of words. -/
structure TwoRow where
  instr : TwoOp → Instr
  r : Word
  s : Word
  dst : Dst
  words : Nat

/-- The forms of TOR1 (R179 to R187). -/
def tor1Rows (w : Width) (a : Reg) (imm : Word) (s : State) : List TwoRow :=
  [⟨fun op => tor1Instr .toraa op w a, s.reg a, s.acc, .acc, 1⟩,
   ⟨fun op => tor1Instr (.toria imm) op w a, s.reg a, imm, .acc, 2⟩,
   ⟨fun op => tor1Instr .todra op w a, s.d, s.reg a, .acc, 1⟩,
   ⟨fun op => tor1Instr .toray op w a, s.reg a, s.acc, .y, 1⟩,
   ⟨fun op => tor1Instr (.toriy imm) op w a, s.reg a, imm, .y, 2⟩,
   ⟨fun op => tor1Instr .todry op w a, s.d, s.reg a, .y, 1⟩,
   ⟨fun op => tor1Instr .torar op w a, s.reg a, s.acc, .reg a, 1⟩,
   ⟨fun op => tor1Instr (.torir imm) op w a, s.reg a, imm, .reg a, 2⟩,
   ⟨fun op => tor1Instr .todrr op w a, s.d, s.reg a, .reg a, 1⟩]

/-- The forms of TOR2 (R188 to R190). -/
def tor2Rows (w : Width) (a : Reg) (imm : Word) (s : State) : List TwoRow :=
  [⟨fun op => tor2Instr .todar op w a, s.d, s.acc, .reg a, 1⟩,
   ⟨fun op => tor2Instr (.toair imm) op w a, s.acc, imm, .reg a, 2⟩,
   ⟨fun op => tor2Instr (.todir imm) op w a, s.d, imm, .reg a, 2⟩]

/-- The forms of TONR (R191 to R193) with one destination. -/
def tonrRowsTo (sel : NrDest) (dst : Dst) (w : Width) (imm : Word) (s : State) : List TwoRow :=
  [⟨fun op => tonrInstr .toda op sel w, s.d, s.acc, dst, 1⟩,
   ⟨fun op => tonrInstr (.toai imm) op sel w, s.acc, imm, dst, 2⟩,
   ⟨fun op => tonrInstr (.todi imm) op sel w, s.d, imm, dst, 2⟩]

/-- Every form of TOR1, TOR2 and TONR (R179 to R194). -/
def twoRows (w : Width) (a : Reg) (imm : Word) (s : State) : List TwoRow :=
  tor1Rows w a imm s ++ tor2Rows w a imm s ++ tonrRowsTo .nry .y w imm s
    ++ tonrRowsTo .nra .acc w imm s ++ tonrRowsTo .nrs .st w imm s
    ++ tonrRowsTo .nras .accSt w imm s

/-- A row of Табл. 10.14: the instruction for each operation, the source, the destination. -/
structure ShiftRow where
  instr : ShiftOp → Instr
  src : Word
  dst : Dst

/-- Every form of SHFTR and SHFTNR (R212 to R216). -/
def shiftRows (w : Width) (a : Reg) (s : State) : List ShiftRow :=
  [⟨fun op => shftrInstr .shrr op w a, s.reg a, .reg a⟩,
   ⟨fun op => shftrInstr .shdr op w a, s.d, .reg a⟩,
   ⟨fun op => shftnrInstr .sha op .nry w, s.acc, .y⟩,
   ⟨fun op => shftnrInstr .sha op .nra w, s.acc, .acc⟩,
   ⟨fun op => shftnrInstr .shd op .nry w, s.d, .y⟩,
   ⟨fun op => shftnrInstr .shd op .nra w, s.d, .acc⟩]

/-- A rotate instruction with its source and destination. -/
structure RotateRow where
  instr : Instr
  src : Word
  dst : Dst

/-- The nine rotates (R273 to R281). -/
def rotateRows (w : Width) (n : BitNo) (a : Reg) (s : State) : List RotateRow :=
  [⟨.rotr1Rtra w n a, s.reg a, .acc⟩, ⟨.rotr1Rtry w n a, s.reg a, .y⟩,
   ⟨.rotr1Rtrr w n a, s.reg a, .reg a⟩, ⟨.rotr2Rtar w n a, s.acc, .reg a⟩,
   ⟨.rotr2Rtdr w n a, s.d, .reg a⟩, ⟨.rotnrRtdy w n, s.d, .y⟩, ⟨.rotnrRtda w n, s.d, .acc⟩,
   ⟨.rotnrRtay w n, s.acc, .y⟩, ⟨.rotnrRtaa w n, s.acc, .acc⟩]

/-- A rotate-and-compare or rotate-and-merge instruction: the rotated operand U, the non-rotated
operand R, the mask, the destination, the number of words. -/
structure MaskRow where
  instr : Instr
  u : Word
  r : Word
  mask : Word
  dst : Dst
  words : Nat

/-- The four ROTC instructions (R292 to R295). -/
def compareRows (w : Width) (n : BitNo) (a : Reg) (imm : Word) (s : State) : List MaskRow :=
  [⟨.rotcCdai w n a imm, s.d, s.acc, imm, .y, 2⟩,
   ⟨.rotcCdri w n a imm, s.d, s.reg a, imm, .y, 2⟩,
   ⟨.rotcCdra w n a, s.d, s.reg a, s.acc, .y, 1⟩,
   ⟨.rotcCrai w n a imm, s.reg a, s.acc, imm, .y, 2⟩]

/-- The six ROTM instructions (R298 to R303). -/
def mergeRows (w : Width) (n : BitNo) (a : Reg) (imm : Word) (s : State) : List MaskRow :=
  [⟨.rotmMdai w n a imm, s.d, s.acc, imm, .acc, 2⟩,
   ⟨.rotmMdar w n a, s.d, s.acc, s.reg a, .acc, 1⟩,
   ⟨.rotmMdri w n a imm, s.d, s.reg a, imm, .reg a, 2⟩,
   ⟨.rotmMdra w n a, s.d, s.reg a, s.acc, .reg a, 1⟩,
   ⟨.rotmMari w n a imm, s.acc, s.reg a, imm, .reg a, 2⟩,
   ⟨.rotmMrai w n a imm, s.reg a, s.acc, imm, .acc, 2⟩]

/-- A prioritize instruction: the operand R, the mask S, the destination, the number of words. -/
structure PriorityRow where
  instr : Instr
  r : Word
  mask : Word
  dst : Dst
  words : Nat

/-- The thirty prioritize instructions whose operand and mask come from different sources (R313 to
R329). -/
def priorityRows (w : Width) (a : Reg) (imm : Word) (s : State) : List PriorityRow :=
  [⟨.prt1Pr1aPrt1a w a, s.acc, s.reg a, .acc, 1⟩, ⟨.prt1Pr1aPrt1d w a, s.d, s.reg a, .acc, 1⟩,
   ⟨.prt1Pr1yPrt1a w a, s.acc, s.reg a, .y, 1⟩, ⟨.prt1Pr1yPrt1d w a, s.d, s.reg a, .y, 1⟩,
   ⟨.prt1Pr1rPrt1a w a, s.acc, s.reg a, .reg a, 1⟩, ⟨.prt1Pr1rPrt1d w a, s.d, s.reg a, .reg a, 1⟩,
   ⟨.prt2PraPr2a w a, s.reg a, s.acc, .acc, 1⟩, ⟨.prt2PraPr2y w a, s.reg a, s.acc, .y, 1⟩,
   ⟨.prt2PrzPr2a w a, s.reg a, 0, .acc, 1⟩, ⟨.prt2PrzPr2y w a, s.reg a, 0, .y, 1⟩,
   ⟨.prt2PriPr2a w a imm, s.reg a, imm, .acc, 2⟩, ⟨.prt2PriPr2y w a imm, s.reg a, imm, .y, 2⟩,
   ⟨.prt3PraPr3r w a, s.reg a, s.acc, .reg a, 1⟩, ⟨.prt3PraPr3d w a, s.d, s.acc, .reg a, 1⟩,
   ⟨.prt3PrzPr3r w a, s.reg a, 0, .reg a, 1⟩, ⟨.prt3PrzPr3a w a, s.acc, 0, .reg a, 1⟩,
   ⟨.prt3PrzPr3d w a, s.d, 0, .reg a, 1⟩, ⟨.prt3PriPr3r w a imm, s.reg a, imm, .reg a, 2⟩,
   ⟨.prt3PriPr3a w a imm, s.acc, imm, .reg a, 2⟩, ⟨.prt3PriPr3d w a imm, s.d, imm, .reg a, 2⟩,
   ⟨.prtnrPraPrtdNry w, s.d, s.acc, .y, 1⟩, ⟨.prtnrPraPrtdNra w, s.d, s.acc, .acc, 1⟩,
   ⟨.prtnrPrzPrtaNry w, s.acc, 0, .y, 1⟩, ⟨.prtnrPrzPrtaNra w, s.acc, 0, .acc, 1⟩,
   ⟨.prtnrPrzPrtdNry w, s.d, 0, .y, 1⟩, ⟨.prtnrPrzPrtdNra w, s.d, 0, .acc, 1⟩,
   ⟨.prtnrPriPrtaNry w imm, s.acc, imm, .y, 2⟩, ⟨.prtnrPriPrtaNra w imm, s.acc, imm, .acc, 2⟩,
   ⟨.prtnrPriPrtdNry w imm, s.d, imm, .y, 2⟩, ⟨.prtnrPriPrtdNra w imm, s.d, imm, .acc, 2⟩]

/-- A bit instruction with its operand and destination. -/
structure BitRow where
  instr : Instr
  src : Word
  dst : Dst

/-- The instructions that set bit n (R234, R243, R250). -/
def setRows (w : Width) (n : BitNo) (a : Reg) (s : State) : List BitRow :=
  [⟨.bor1Setnr w n a, s.reg a, .reg a⟩, ⟨.bonrSetna w n, s.acc, .acc⟩, ⟨.bonrSetnd w n, s.d, .y⟩]

/-- The instructions that reset bit n (R235, R242, R249). -/
def resetRows (w : Width) (n : BitNo) (a : Reg) (s : State) : List BitRow :=
  [⟨.bor1Rstnr w n a, s.reg a, .reg a⟩, ⟨.bonrRstna w n, s.acc, .acc⟩, ⟨.bonrRstnd w n, s.d, .y⟩]

/-- The instructions that test bit n (R236, R241, R248). -/
def testRows (w : Width) (n : BitNo) (a : Reg) (s : State) : List BitRow :=
  [⟨.bor1Tstnr w n a, s.reg a, .y⟩, ⟨.bonrTstna w n, s.acc, .y⟩, ⟨.bonrTstnd w n, s.d, .y⟩]

/-- The instructions that load 2^n, which have no operand (R237, R246, R253). -/
def loadRows (w : Width) (n : BitNo) (a : Reg) : List BitRow :=
  [⟨.bor2Ld2nr w n a, 0, .reg a⟩, ⟨.bonrLd2na w n, 0, .acc⟩, ⟨.bonrLd2ny w n, 0, .y⟩]

/-- The instructions that load the complement of 2^n, which have no operand (R238, R247, R254). -/
def loadComplementRows (w : Width) (n : BitNo) (a : Reg) : List BitRow :=
  [⟨.bor2Ldc2nr w n a, 0, .reg a⟩, ⟨.bonrLdc2na w n, 0, .acc⟩, ⟨.bonrLdc2ny w n, 0, .y⟩]

/-- The instructions that add 2^n (R239, R244, R255). -/
def addPowerRows (w : Width) (n : BitNo) (a : Reg) (s : State) : List BitRow :=
  [⟨.bor2A2nr w n a, s.reg a, .reg a⟩, ⟨.bonrA2na w n, s.acc, .acc⟩, ⟨.bonrA2ndy w n, s.d, .y⟩]

/-- The instructions that subtract 2^n (R240, R245, R256). -/
def subtractPowerRows (w : Width) (n : BitNo) (a : Reg) (s : State) : List BitRow :=
  [⟨.bor2S2nr w n a, s.reg a, .reg a⟩, ⟨.bonrS2na w n, s.acc, .acc⟩, ⟨.bonrS2ndy w n, s.d, .y⟩]

/-- The twenty-one bit instructions. -/
def bitRows (w : Width) (n : BitNo) (a : Reg) (s : State) : List BitRow :=
  setRows w n a s ++ resetRows w n a s ++ testRows w n a s ++ loadRows w n a
    ++ loadComplementRows w n a ++ addPowerRows w n a s ++ subtractPowerRows w n a s

/-- Bit `i` of the left rotate of a `k`-bit value by n, for `k` = 8 or 16: the bit at `(i - n) mod k`
(R272). -/
def rotatedBit {k : Nat} (v : BitVec k) (n : BitNo) (i : Nat) : Bool :=
  v.getLsbD ((i + 16 - n.toNat) % k)

/-! ## Instructions that write no register but РгС -/

/-- РгС as a byte, at the bits of R23. -/
def statusByte (st : Status) : BitVec 8 :=
  BitVec.ofBool st.fl3 ++ BitVec.ofBool st.fl2 ++ BitVec.ofBool st.fl1 ++ BitVec.ofBool st.l
    ++ BitVec.ofBool st.n ++ BitVec.ofBool st.ovr ++ BitVec.ofBool st.c ++ BitVec.ofBool st.z

/-- Every register but РгС stays, and so do the stream and the host's moves; the index moves by one. -/
def KeepsRegisters (s t : State) : Prop :=
  (∀ b : Reg, t.reg b = s.reg b) ∧ t.acc = s.acc ∧ t.d = s.d ∧ t.ip = s.ip + 1 ∧ t.prog = s.prog ∧
    t.dFeed = s.dFeed

/-- An instruction completes with `y` on the Y bus and РгС = `st`, and writes nothing else. -/
def SetsStatus (i : Instr) (y : Word) (st : Status) (s : State) : Prop :=
  ∃ t, exec i s = .next t ∧ t.y = y ∧ t.st = st ∧ KeepsRegisters s t

/-- An instruction completes with `b` on CT and writes no register. -/
def TestsCondition (i : Instr) (b : Bool) (s : State) : Prop :=
  ∃ t, exec i s = .next t ∧ t.ct = b ∧ t.st = s.st ∧ KeepsRegisters s t

/-- The twelve TSTST instructions with their conditions (R378 to R389). -/
def testConditions (st : Status) : List (Instr × Bool) :=
  [(.tststTnoz, (st.n ^^ st.ovr) || st.z), (.tststTno, st.n ^^ st.ovr), (.tststTz, st.z),
   (.tststTovr, st.ovr), (.tststTlow, false), (.tststTc, st.c), (.tststTzc, st.z || !st.c),
   (.tststTn, st.n), (.tststTl, st.l), (.tststTf1, st.fl1), (.tststTf2, st.fl2),
   (.tststTf3, st.fl3)]

/-! ## The instruction word -/

/-- The first word of an instruction has the fields W, Q, F1, F2, F3 at the bits of R70. -/
def FieldsAre (i : Instr) (w : Width) (q : BitVec 2) (f1 f2 : BitVec 4) (f3 : BitVec 5) : Prop :=
  ∃ word, (encode i).head? = some word ∧ word.getLsbD 15 = decide (w = .word) ∧
    word.extractLsb' 13 2 = q ∧ word.extractLsb' 9 4 = f1 ∧ word.extractLsb' 5 4 = f2 ∧
    word.extractLsb' 0 5 = f3

/-- No instruction's first word is `word` (R78). -/
def MatchesNoRow (word : Word) : Prop := ∀ i : Instr, (encode i).head? ≠ some word

/-! ## Properties of instructions -/

/-- The operating width an instruction's B/W field selects; formats with a fixed bit 15 have none
(R75). -/
def widthField (f : Format) : Option Width :=
  match f with
  | .sor _ _ w _ | .sonr _ _ _ w | .tor1 _ _ w _ | .tor2 _ _ w _ | .tonr _ _ _ w
  | .shftr _ _ w _ | .shftnr _ _ _ w | .bor1 _ w _ _ | .bor2 _ w _ _ | .bonr _ w _
  | .rotr1 _ w _ _ | .rotr2 _ w _ _ | .rotnr _ w _ | .rotc _ w _ _ | .rotm _ w _ _
  | .prt1 _ _ w _ | .prt2 _ _ w _ | .prt3 _ _ w _ | .prtnr _ _ _ w | .svstr w _
  | .svstnr _ w => some w
  | .crcf _ | .crcr _ | .setst _ | .rstst _ | .tstst _ | .nop => none

/-- The register-file address an instruction names (R20, R51). -/
def addressField (f : Format) : Option Reg :=
  match f with
  | .sor _ _ _ a | .tor1 _ _ _ a | .tor2 _ _ _ a | .shftr _ _ _ a | .bor1 _ _ _ a
  | .bor2 _ _ _ a | .rotr1 _ _ _ a | .rotr2 _ _ _ a | .rotc _ _ _ a | .rotm _ _ _ a
  | .prt1 _ _ _ a | .prt2 _ _ _ a | .prt3 _ _ _ a | .crcf a | .crcr a | .svstr _ a => some a
  | .sonr _ _ _ _ | .tonr _ _ _ _ | .shftnr _ _ _ _ | .bonr _ _ _ | .rotnr _ _ _
  | .prtnr _ _ _ _ | .setst _ | .rstst _ | .svstnr _ _ | .tstst _ | .nop => none

/-- Whether an instruction has РгС as a destination: SORS, NRS and NRAS (R35). -/
def loadsStatus (f : Format) : Bool :=
  match f with
  | .sor _ .sors _ _ | .sonr _ _ .nrs _ | .sonr _ _ .nras _ | .tonr _ _ .nrs _
  | .tonr _ _ .nras _ => true
  | _ => false

/-- Whether an instruction is SETST or RSTST. -/
def setsOrResetsStatus (f : Format) : Bool :=
  match f with
  | .setst _ | .rstst _ => true
  | _ => false

/-- Whether an instruction is a shift or a CRC step, which load L (R25). -/
def shiftsThroughLink (f : Format) : Bool :=
  match f with
  | .shftr _ _ _ _ | .shftnr _ _ _ _ | .crcf _ | .crcr _ => true
  | _ => false

/-- Whether an instruction saves or tests the status or does nothing, and so changes no flag (R25). -/
def keepsStatus (f : Format) : Bool :=
  match f with
  | .svstr _ _ | .svstnr _ _ | .tstst _ | .nop => true
  | _ => false

/-- Whether an instruction takes an immediate operand: the table of R391. -/
def takesImmediate (f : Format) : Bool :=
  match f with
  | .sor _ (.soir _) _ _ | .sonr _ (.soi _) _ _
  | .tor1 (.toria _) _ _ _ | .tor1 (.toriy _) _ _ _ | .tor1 (.torir _) _ _ _
  | .tor2 (.toair _) _ _ _ | .tor2 (.todir _) _ _ _
  | .tonr (.toai _) _ _ _ | .tonr (.todi _) _ _ _
  | .rotc (.cdai _) _ _ _ | .rotc (.cdri _) _ _ _ | .rotc (.crai _) _ _ _
  | .rotm (.mdai _) _ _ _ | .rotm (.mdri _) _ _ _ | .rotm (.mari _) _ _ _ | .rotm (.mrai _) _ _ _
  | .prt2 (.pri _) _ _ _ | .prt3 (.pri _) _ _ _ | .prtnr (.pri _) _ _ _ => true
  | _ => false

/-- Whether an instruction is a bit instruction in byte mode with n above 7 (R233). -/
def bitNumberTooHigh (f : Format) : Bool :=
  match f with
  | .bor1 _ .byte n _ | .bor2 _ .byte n _ | .bonr _ .byte n => decide (7 < n.toNat)
  | _ => false

/-- Whether an instruction is a prioritize instruction with Акк as operand and as mask (R316). -/
def sameSources (f : Format) : Bool :=
  match f with
  | .prt3 .pra .pr3a _ _ | .prtnr .pra .prta _ _ => true
  | _ => false

/-- Whether an instruction has Акк as a destination (R21). -/
def writesAccumulator (f : Format) : Bool :=
  match f with
  | .sor _ .sora _ _ | .sonr _ _ .nra _ | .sonr _ _ .nras _ | .tor1 .toraa _ _ _
  | .tor1 (.toria _) _ _ _ | .tor1 .todra _ _ _ | .tonr _ _ .nra _ | .tonr _ _ .nras _
  | .shftnr _ _ .nra _ | .bonr .rstna _ _ | .bonr .setna _ _ | .bonr .a2na _ _ | .bonr .s2na _ _
  | .bonr .ld2na _ _ | .bonr .ldc2na _ _ | .rotr1 .rtra _ _ _ | .rotnr .rtda _ _
  | .rotnr .rtaa _ _ | .rotm (.mdai _) _ _ _ | .rotm .mdar _ _ _ | .rotm (.mrai _) _ _ _
  | .prt1 .pr1a _ _ _ | .prt2 _ .pr2a _ _ | .prtnr _ _ .nra _ | .svstnr .nra _ => true
  | _ => false

/-- Two states that agree on everything but the high bytes of the registers and the outputs. -/
def LowBytesAgree (s t : State) : Prop :=
  (∀ a : Reg, (s.reg a).extractLsb' 0 8 = (t.reg a).extractLsb' 0 8) ∧
  s.acc.extractLsb' 0 8 = t.acc.extractLsb' 0 8 ∧
  s.d.extractLsb' 0 8 = t.d.extractLsb' 0 8 ∧
  s.st = t.st ∧ s.prog = t.prog ∧ s.ip = t.ip ∧ s.dFeed = t.dFeed ∧ s.draws = t.draws

end

end Sys2Proof.Claims
end

