-- ==== Sys2Proof/Safety.lean ====
section
/-! DEFINITION. Runs, and what counts as a safe state and a safe run. -/

namespace Sys2Proof.Machine

/-- `k` steps, stopping at the first fault or refusal: `Host.Core.run` of `core`, with the machine's own
types (`runSteps_eq_run`). -/
noncomputable def runSteps : Nat → State → Result
  | 0, s => .next s
  | k + 1, s =>
    match step s with
    | .next s' => runSteps k s'
    | .fault r => .fault r
    | .refused r => .refused r

theorem runSteps_eq_run (k : Nat) (s : State) : runSteps k s = core.run k s := by
  have h : ∀ (M : Host.Core) (k : Nat) (s : M.State), M.run (k + 1) s =
      match M.step s with
      | .next s' => M.run k s'
      | .fault r => .fault r
      | .refused r => .refused r := fun _ _ _ => rfl
  induction k generalizing s with
  | zero => rfl
  | succ k ih =>
    refine Eq.trans ?_ (h core k s).symm
    cases hs : step s with
    | next s' =>
      have hs' : core.step s = .next s' := hs
      rw [hs']
      simp only [runSteps, hs]
      exact ih s'
    | fault r =>
      have hs' : core.step s = .fault r := hs
      rw [hs']
      simp only [runSteps, hs]
      rfl
    | refused r =>
      have hs' : core.step s = .refused r := hs
      rw [hs']
      simp only [runSteps, hs]
      rfl

/-- The index has not passed the end of the stream: `ip` is the index of a word or the length of
`prog`, where the run ends (R30). -/
def State.InStream (s : State) : Prop := s.ip ≤ s.prog.length

/-- The run has ended: every word of the stream is used (R30). -/
def State.Ended (s : State) : Prop := s.ip = s.prog.length

/-- A run of `k` steps that meets no refusal: it reaches a state or the end of the stream (R401). -/
def SafeRun (k : Nat) (s : State) : Prop := ∀ r : Refusal, runSteps k s ≠ .refused r

end Sys2Proof.Machine
end

