-- ==== Sys2Proof/Certificates/Slice0/Obligations.lean ====
section
/-! DEFINITION. The statements for the provers. `Gives` and `Delivers` (Claims.lean) say the result, the
flags and everything an instruction leaves alone; no statement says anything of a free value. -/

section

open Sys2Proof Sys2Proof.Machine Sys2Proof.Claims

/-! ## Encoding -/

/-- Decode and encode agree, one way: the words of every instruction, whatever its operands and whatever
follows, decode to it (R70 to R111). -/
def Obligations.DecodeOfEncode : Prop :=
  ∀ (i : Instr) (rest : List Word), decode (encode i ++ rest) = .ok i rest

/-- Decode and encode agree, the other way: words that decode to an instruction are the words the
encoder writes for it, so no word has two readings (R112). -/
def Obligations.EncodeOfDecode : Prop :=
  ∀ (ws rest : List Word) (i : Instr), decode ws = .ok i rest → ws = encode i ++ rest

/-- The decoder rejects exactly the words that begin no instruction (R78), asks for a missing immediate
word exactly where the last word needs one (R392), and finds no word exactly at the end. -/
def Obligations.DecodeRejectsExactly : Prop :=
  (∀ (word : Word) (rest : List Word),
    decode (word :: rest) = .undecodable word ↔ MatchesNoRow word) ∧
  (∀ (ws : List Word),
    decode ws = .immediateMissing ↔ ∃ (i : Instr) (word imm : Word), ws = [word] ∧ encode i = [word, imm]) ∧
  (∀ ws : List Word, decode ws = .noWord ↔ ws = [])

/-- The forms of R391, and no other, have a second word; the first word alone decides it. -/
def Obligations.ImmediateFormsHaveTwoWords : Prop :=
  (∀ i : Instr, (encode i).length = if takesImmediate i.format then 2 else 1) ∧
  ∀ i j : Instr, (encode i).head? = (encode j).head? → (encode i).length = (encode j).length

/-- Where the formats of R120, R121, R160, R161, R162, R200 and R201 place W, Q, the fields that select
the instruction and the register-file address (R70, R71). That B/W is bit 15 is the spec's decision D4
(notes/assumptions/36.md). -/
def Obligations.FormatsPlaceTheirFields : Prop :=
  (∀ op form w a, FieldsAre (sorInstr op form w a) w 0b10#2 op.code form.code a) ∧
  (∀ op src dst w, FieldsAre (sonrInstr op src dst w) w 0b11#2 op.code src.code dst.code) ∧
  (∀ form op w a, FieldsAre (tor1Instr form op w a) w 0b00#2 form.code op.code a) ∧
  (∀ form op w a, FieldsAre (tor2Instr form op w a) w 0b10#2 form.code op.code a) ∧
  (∀ form op dst w, FieldsAre (tonrInstr form op dst w) w 0b11#2 form.code op.code dst.code) ∧
  (∀ form op w a, FieldsAre (shftrInstr form op w a) w 0b10#2 form.code op.code a) ∧
  (∀ src op dst w, FieldsAre (shftnrInstr src op dst w) w 0b11#2 src.code op.code dst.code)

/-- Words written out from the spec's encodings, one at least for each family, decode to the
instructions they stand for. The codes are the default of `CODES` (notes/assumptions/3.md). -/
def Obligations.SpecWordsDecode : Prop :=
  ∀ p ∈ ([([0b1_10_1100_0100_00010#16], .sorMoveSoar .word 2),
      ([0b1_10_1100_0111_00011#16, 0x1234#16], .sorMoveSoir .word 3 0x1234),
      ([0b1_11_1111_0100_00001#16], .sonrNegSoaNra .word),
      ([0b1_00_1100_0100_00010#16], .tor1TorarAdd .word 2),
      ([0b1_11_0010_0110_00100#16, 0x00FF#16], .tonrToaiAndNrs .word 0x00FF),
      ([0b0_10_0110_0000_00001#16], .shftrShrrShupz .byte 1),
      ([0b1_11_0101_1101_00111#16], .bor1Setnr .word 5 7),
      ([0b1_10_0100_1110_00011#16], .bor2A2nr .word 4 3),
      ([0b1_11_1111_1100_00000#16], .bonrTstna .word 15),
      ([0b1_00_0100_1100_00010#16], .rotr1Rtra .word 4 2),
      ([0b1_11_0100_1100_11101#16], .rotnrRtaa .word 4),
      ([0b1_01_0100_0010_00000#16, 0xFF00#16], .rotcCdai .word 4 0 0xFF00),
      ([0b1_01_0000_1000_00011#16], .rotmMdar .word 0 3),
      ([0b1_10_1010_0111_00010#16], .prt1Pr1yPrt1a .word 2),
      ([0xCC61#16], .crcf 1), ([0xCD21#16], .crcr 1), ([0x7743#16], .setstSonccz),
      ([0x7546#16], .rststRf1), ([0xCF49#16], .svstr .word 9), ([0x6F41#16], .svstnrNra .byte),
      ([0x7356#16], .tststTf3), ([0x7140#16], .nop)] : List (List Word × Instr)),
    decode p.1 = .ok p.2 []

/-! ## The step, its stops, the stream -/

/-- A step at a word of the stream that begins an instruction runs that instruction, on the state in
which the host has made its move on Рг.D (R24, R30; the list of moves is notes/assumptions/4.md). -/
def Obligations.StepRunsDecodedInstruction : Prop :=
  ∀ (s : State) (i : Instr) (rest : List Word), decode (s.prog.drop s.ip) = .ok i rest →
    step s = exec i { s with d := (s.dFeed.head?.join).getD s.d, dFeed := s.dFeed.tail }

/-- A step faults exactly where no word of the stream is left; no instruction faults (R400; that the
end of the stream is a fault is notes/assumptions/17.md). -/
def Obligations.StepFaultsExactlyAtTheEnd : Prop :=
  ∀ s : State, step s = .fault .endOfProgram ↔ s.prog.length ≤ s.ip

/-- A step is refused in exactly the four situations of R401, with the refusal named there (decisions D15, D27,
D28 and D41; notes/assumptions/11.md, 31.md, 32.md and 35.md). -/
def Obligations.StepIsRefusedExactlyWhen : Prop :=
  ∀ (s : State) (r : Refusal), step s = .refused r ↔
    (∃ word rest, s.prog.drop s.ip = word :: rest ∧ MatchesNoRow word ∧ r = .undecodableWord word) ∨
    (∃ i word imm, s.prog.drop s.ip = [word] ∧ encode i = [word, imm] ∧
      r = .immediateOperandMissing) ∨
    (∃ i rest, s.prog.drop s.ip = encode i ++ rest ∧ bitNumberTooHigh i.format = true ∧
      r = .bitNumberAbove7) ∨
    (∃ i rest, s.prog.drop s.ip = encode i ++ rest ∧ sameSources i.format = true ∧ r = .sameSource)

/-- Every well-formed instruction completes in every state: the index moves past its words, and
neither the stream nor Рг.D changes. That RSTND and SETND leave Рг.D is D16 (notes/assumptions/12.md); what
well-formed leaves out is D15 and D41 (notes/assumptions/11.md, notes/assumptions/32.md). -/
def Obligations.WellFormedInstructionsComplete : Prop :=
  ∀ (i : Instr) (s : State), i.wellFormed = true →
    ∃ t, exec i s = .next t ∧ t.ip = s.ip + (encode i).length ∧ t.prog = s.prog ∧ t.d = s.d ∧
      t.dFeed = s.dFeed

/-- The state after reset: the index is 0 (R32). That every register, flag and output is 0 and that no
program is loaded is the model's choice (notes/assumptions/1.md, notes/assumptions/15.md). -/
def Obligations.ResetState : Prop :=
  State.reset.ip = 0 ∧ (∀ a : Reg, State.reset.reg a = 0) ∧ State.reset.acc = 0 ∧
  State.reset.d = 0 ∧ statusByte State.reset.st = 0 ∧ State.reset.y = 0 ∧ State.reset.ct = false ∧
  State.reset.prog = [] ∧ State.reset.dFeed = []

/-- Every step keeps the index within the stream: it never passes the end, not even by the second word
of an instruction (R30, R392). -/
def Obligations.StepKeepsIndexInStream : Prop :=
  ∀ s t : State, s.InStream → step s = .next t → t.InStream

/-- The state after reset has its index within the stream. -/
def Obligations.ResetIndexInStream : Prop := State.reset.InStream

/-- A run never changes its stream, and Рг.D holds after any step what the host gave it or what it held
before: no instruction writes either (R22, R24, R58). -/
def Obligations.RunKeepsStreamAndDataRegister : Prop :=
  ∀ (k : Nat) (s t : State), runSteps k s = .next t →
    t.prog = s.prog ∧ t.dFeed = s.dFeed.drop k ∧
      t.d = (((s.dFeed.take k).filterMap id).getLast?).getD s.d

/-- A run of `k` steps moves the index by at least `k` and at most `2 k` words: the program is a straight
line (R30, R413). -/
def Obligations.RunIsAStraightLine : Prop :=
  ∀ (k : Nat) (s t : State), runSteps k s = .next t → s.ip + k ≤ t.ip ∧ t.ip ≤ s.ip + 2 * k

/-! ## Stops -/

/-- In byte mode the bit instructions stop on a bit number above 7 (R233; the choice of the default is
notes/assumptions/11.md). -/
def Obligations.ByteBitNumberAboveSevenRefused : Prop :=
  ∀ (n : BitNo) (a : Reg) (s : State), 7 < n.toNat →
    ∀ row ∈ bitRows .byte n a s, exec row.instr s = .refused .bitNumberAbove7

/-- The prioritize instructions that name Акк as operand and as mask stop (R316; the refusal is the
spec's decision D41). -/
def Obligations.SameSourceRefused : Prop :=
  ∀ (w : Width) (a : Reg) (s : State),
    exec (.prt3PraPr3a w a) s = .refused .sameSource ∧
    exec (.prtnrPraPrtaNry w) s = .refused .sameSource ∧
    exec (.prtnrPraPrtaNra w) s = .refused .sameSource

/-! ## Single-operand instructions -/

/-- MOVE, in every form of SOR and SONR: the result is the source, with the flags of a logical operation
(R124). C and OVR cleared is the spec's decision D9, the 0 of SOZR and SOZ is D13 (notes/assumptions/23.md,
27.md); the byte-mode write is D5 (notes/assumptions/21.md), the load of РгС D10 (notes/assumptions/33.md,
9.md, 8.md). -/
def Obligations.MoveResult : Prop :=
  ∀ (w : Width) (a : Reg) (imm : Word) (s : State), ∀ row ∈ singleRows w a imm s,
    Gives (row.instr .move) w row.dst (loW w row.src)
      (flagsOf (loW w row.src) false false s.st) row.words s

/-- COMP, in every form: the result is the complement of the source (R125; decisions D9, D12 and D13,
notes/assumptions/23.md, 27.md). The byte-mode write is D5 (notes/assumptions/21.md), the load of РгС D10
(notes/assumptions/33.md, 9.md, 8.md). -/
def Obligations.ComplementResult : Prop :=
  ∀ (w : Width) (a : Reg) (imm : Word) (s : State), ∀ row ∈ singleRows w a imm s,
    ∃ r : BitVec w.bits, (∀ j < w.bits, r.getLsbD j = !row.src.getLsbD j) ∧
      Gives (row.instr .comp) w row.dst r (flagsOf r false false s.st) row.words s

/-- INC, in every form: one more than the source; C where the source is all ones, OVR where the signed sum
does not fit (R126; decision D7, notes/assumptions/22.md). The 0 of SOZR and SOZ is D13 (notes/assumptions/27.md),
the byte-mode write D5 (notes/assumptions/21.md), the load of РгС D10 (notes/assumptions/33.md, 9.md,
8.md). -/
def Obligations.IncrementResult : Prop :=
  ∀ (w : Width) (a : Reg) (imm : Word) (s : State), ∀ row ∈ singleRows w a imm s,
    let v := loW w row.src
    Gives (row.instr .inc) w row.dst (v + 1)
      (flagsOf (v + 1) (decide (v.toNat + 1 = 2 ^ w.bits)) (outOfRange w.bits (v.toInt + 1)) s.st)
      row.words s

/-- NEG, in every form: the negated source; C exactly where the source is 0, OVR exactly where the signed
negation does not fit (R127; decisions D7, D12 and D13, notes/assumptions/22.md, 27.md). The byte-mode write is D5
(notes/assumptions/21.md), the load of РгС D10 (notes/assumptions/33.md, 9.md, 8.md). -/
def Obligations.NegateResult : Prop :=
  ∀ (w : Width) (a : Reg) (imm : Word) (s : State), ∀ row ∈ singleRows w a imm s,
    let v := loW w row.src
    Gives (row.instr .neg) w row.dst (-v)
      (flagsOf (-v) (decide (v = 0)) (outOfRange w.bits (-v.toInt)) s.st) row.words s

/-! ## Two-operand instructions -/

/-- ADD and ADDC, in every form of TOR1, TOR2 and TONR (R171, R172): the sum of R, S and, for ADDC, the
old C; C is the carry out, OVR the signed overflow (decision D7, notes/assumptions/22.md). The byte-mode write is D5
(notes/assumptions/21.md), the load of РгС D10 (notes/assumptions/33.md, 9.md, 8.md). -/
def Obligations.AddResult : Prop :=
  ∀ (w : Width) (a : Reg) (imm : Word) (s : State), ∀ row ∈ twoRows w a imm s,
    let u := loW w row.r
    let v := loW w row.s
    ∀ p ∈ [(TwoOp.add, false), (TwoOp.addc, s.st.c)],
      let r := BitVec.ofNat w.bits (u.toNat + v.toNat + p.2.toNat)
      Gives (row.instr p.1) w row.dst r
        (flagsOf r (decide (2 ^ w.bits ≤ u.toNat + v.toNat + p.2.toNat))
          (outOfRange w.bits (u.toInt + v.toInt + p.2.toInt)) s.st) row.words s

/-- SUBR and SUBS, in every form (R167, R169): the difference; C is 1 where no borrow occurs, OVR the signed
overflow (R166, decision D7; notes/assumptions/6.md, 22.md). The byte-mode write is D5
(notes/assumptions/21.md), the load of РгС D10 (notes/assumptions/33.md, 9.md, 8.md). -/
def Obligations.SubtractResult : Prop :=
  ∀ (w : Width) (a : Reg) (imm : Word) (s : State), ∀ row ∈ twoRows w a imm s,
    let u := loW w row.r
    let v := loW w row.s
    Gives (row.instr .subr) w row.dst (v - u)
      (flagsOf (v - u) (decide (u.toNat ≤ v.toNat)) (outOfRange w.bits (v.toInt - u.toInt)) s.st)
      row.words s ∧
    Gives (row.instr .subs) w row.dst (u - v)
      (flagsOf (u - v) (decide (v.toNat ≤ u.toNat)) (outOfRange w.bits (u.toInt - v.toInt)) s.st)
      row.words s

/-- SUBRC and SUBSC, in every form (R168, R170): the difference less the borrow that the old C of 0 stands
for (decisions D7 and D8; notes/assumptions/6.md, 7.md, 22.md). The byte-mode write is D5
(notes/assumptions/21.md), the load of РгС D10 (notes/assumptions/33.md, 9.md, 8.md). -/
def Obligations.SubtractWithCarryResult : Prop :=
  ∀ (w : Width) (a : Reg) (imm : Word) (s : State), ∀ row ∈ twoRows w a imm s,
    let u := loW w row.r
    let v := loW w row.s
    let borrow := (!s.st.c).toNat
    let r := BitVec.ofInt w.bits (v.toInt - u.toInt - borrow)
    let q := BitVec.ofInt w.bits (u.toInt - v.toInt - borrow)
    Gives (row.instr .subrc) w row.dst r
      (flagsOf r (decide (u.toNat + borrow ≤ v.toNat))
        (outOfRange w.bits (v.toInt - u.toInt - borrow)) s.st) row.words s ∧
    Gives (row.instr .subsc) w row.dst q
      (flagsOf q (decide (v.toNat + borrow ≤ u.toNat))
        (outOfRange w.bits (u.toInt - v.toInt - borrow)) s.st) row.words s

/-- AND, NAND, EXOR, NOR, OR and EXNOR, in every form (R173 to R178), bit by bit, with C and OVR
cleared. The byte-mode write is D5
(notes/assumptions/21.md), the load of РгС D10 (notes/assumptions/33.md, 9.md, 8.md). -/
def Obligations.LogicResult : Prop :=
  ∀ (w : Width) (a : Reg) (imm : Word) (s : State), ∀ row ∈ twoRows w a imm s,
    ∀ p ∈ ([(.and, fun r s => r && s), (.nand, fun r s => !(r && s)), (.exor, fun r s => r != s),
        (.nor, fun r s => !(r || s)), (.or, fun r s => r || s), (.exnor, fun r s => r == s)] :
        List (TwoOp × (Bool → Bool → Bool))),
      ∃ r : BitVec w.bits,
        (∀ j < w.bits, r.getLsbD j = p.2 (row.r.getLsbD j) (row.s.getLsbD j)) ∧
        Gives (row.instr p.1) w row.dst r (flagsOf r false false s.st) row.words s

/-- A 32-bit addition of Рг.D:Акк to `x[b]:x[a]` in two instructions, ADD on the low words and ADDC on the
high words, chained through C (R172; decision D7). -/
def Obligations.AdditionChainsThroughCarry : Prop :=
  ∀ (a b : Reg) (s : State), a ≠ b →
    ∃ t u, exec (.tor1TorarAdd .word a) s = .next t ∧ exec (.tor1TodrrAddc .word b) t = .next u ∧
      u.reg b ++ u.reg a = (s.reg b ++ s.reg a) + (s.d ++ s.acc) ∧
      u.st.c = decide (2 ^ 32 ≤ (s.reg b ++ s.reg a).toNat + (s.d ++ s.acc).toNat)

/-- A 32-bit subtraction of Рг.D:Акк from `x[b]:x[a]` in two instructions, SUBS on the low words and SUBRC
on the high words, chained through C (R166: "the form that makes a multi-word subtraction work"; decisions
D7 and D8). -/
def Obligations.SubtractionChainsThroughCarry : Prop :=
  ∀ (a b : Reg) (s : State), a ≠ b →
    ∃ t u, exec (.tor1TorarSubs .word a) s = .next t ∧ exec (.tor1TodrrSubrc .word b) t = .next u ∧
      u.reg b ++ u.reg a = (s.reg b ++ s.reg a) - (s.d ++ s.acc) ∧
      u.st.c = decide ((s.d ++ s.acc).toNat ≤ (s.reg b ++ s.reg a).toNat)

/-! ## Shifts -/

/-- The three up shifts, in every form (R202, R204 to R206): every bit moves up one place, X enters bit 0,
the top bit goes to L. The inputs 0 and 1 are D13 (notes/assumptions/27.md), the byte-mode write D5
(notes/assumptions/21.md). -/
def Obligations.ShiftUpResult : Prop :=
  ∀ (w : Width) (a : Reg) (s : State), ∀ row ∈ shiftRows w a s,
    ∀ p ∈ [(ShiftOp.shupz, false), (ShiftOp.shup1, true), (ShiftOp.shupl, s.st.l)],
      ∃ r : BitVec w.bits, r.getLsbD 0 = p.2 ∧
        (∀ j, j + 1 < w.bits → r.getLsbD (j + 1) = row.src.getLsbD j) ∧
        Gives (row.instr p.1) w row.dst r
          { flagsOf r false false s.st with l := row.src.getLsbD (w.bits - 1) } 1 s

/-- The five down shifts, in every form (R202, R207 to R211): every bit moves down one place, X enters the top
bit, bit 0 goes to L. The inputs 0 and 1 are D13 (notes/assumptions/27.md), the byte-mode write D5
(notes/assumptions/21.md). -/
def Obligations.ShiftDownResult : Prop :=
  ∀ (w : Width) (a : Reg) (s : State), ∀ row ∈ shiftRows w a s,
    ∀ p ∈ [(ShiftOp.shdnz, false), (ShiftOp.shdn1, true), (ShiftOp.shdnl, s.st.l),
        (ShiftOp.shdnc, s.st.c), (ShiftOp.shdnov, s.st.n ^^ s.st.ovr)],
      ∃ r : BitVec w.bits, r.getLsbD (w.bits - 1) = p.2 ∧
        (∀ j, j + 1 < w.bits → r.getLsbD j = row.src.getLsbD (j + 1)) ∧
        Gives (row.instr p.1) w row.dst r
          { flagsOf r false false s.st with l := row.src.getLsbD 0 } 1 s

/-- The flags of every shift (R203): N and Z from the shifted result, which stands on the Y bus, C and OVR
cleared, L the bit shifted out, FL1 to FL3 unchanged. -/
def Obligations.ShiftFlags : Prop :=
  ∀ (w : Width) (a : Reg) (s : State), ∀ row ∈ shiftRows w a s, ∀ op : ShiftOp,
    ∃ t, exec (row.instr op) s = .next t ∧
      t.st.n = (loW w t.y).getLsbD (w.bits - 1) ∧ (t.st.z = true ↔ loW w t.y = 0) ∧
      t.st.c = false ∧ t.st.ovr = false ∧
      t.st.l = row.src.getLsbD
        (if op = .shupz ∨ op = .shup1 ∨ op = .shupl then w.bits - 1 else 0) ∧
      t.st.fl1 = s.st.fl1 ∧ t.st.fl2 = s.st.fl2 ∧ t.st.fl3 = s.st.fl3

/-- SHUPL and SHDNL rotate a register and L as one value: SHDNL undoes SHUPL (R206, R209). That the
high byte stays in byte mode is D5 (notes/assumptions/21.md). -/
def Obligations.LinkRotatesUndoEachOther : Prop :=
  ∀ (w : Width) (a : Reg) (s : State),
    ∃ t u, exec (.shftrShrrShupl w a) s = .next t ∧ exec (.shftrShrrShdnl w a) t = .next u ∧
      u.reg a = s.reg a ∧ u.st.l = s.st.l

/-! ## Bit instructions -/

/-- Set and reset (R234, R235, R242, R243, R249, R250): bit n becomes 1, or 0, every other bit stays. N is the
spec's decision D14; that SETND and RSTND leave Рг.D alone is D16 (notes/assumptions/12.md); the
byte-mode write is D5 (notes/assumptions/21.md). -/
def Obligations.BitSetResetResult : Prop :=
  ∀ (w : Width) (n : BitNo) (a : Reg) (s : State), n.toNat < w.bits →
    (∀ row ∈ setRows w n a s, ∃ r : BitVec w.bits,
      (∀ j < w.bits, r.getLsbD j = if j = n.toNat then true else row.src.getLsbD j) ∧
      Gives row.instr w row.dst r (flagsOf r false false s.st) 1 s) ∧
    (∀ row ∈ resetRows w n a s, ∃ r : BitVec w.bits,
      (∀ j < w.bits, r.getLsbD j = if j = n.toNat then false else row.src.getLsbD j) ∧
      Gives row.instr w row.dst r (flagsOf r false false s.st) 1 s)

/-- Test (R236, R241, R248): Y shows bit n alone, Z is 1 exactly where it is 0, no register is written. -/
def Obligations.BitTestResult : Prop :=
  ∀ (w : Width) (n : BitNo) (a : Reg) (s : State), n.toNat < w.bits →
    ∀ row ∈ testRows w n a s, ∃ r : BitVec w.bits,
      (∀ j < w.bits, r.getLsbD j = if j = n.toNat then row.src.getLsbD j else false) ∧
      (r = 0 ↔ row.src.getLsbD n.toNat = false) ∧
      Gives row.instr w row.dst r (flagsOf r false false s.st) 1 s

/-- Loads of 2^n and of its complement (R237, R238, R246, R247, R253, R254). The flags are
D14 (notes/assumptions/24.md), the byte-mode write D5 (notes/assumptions/21.md). -/
def Obligations.BitLoadResult : Prop :=
  ∀ (w : Width) (n : BitNo) (a : Reg) (s : State), n.toNat < w.bits →
    (∀ row ∈ loadRows w n a, ∃ r : BitVec w.bits, (∀ j < w.bits, r.getLsbD j = decide (j = n.toNat)) ∧
      Gives row.instr w row.dst r (flagsOf r false false s.st) 1 s) ∧
    (∀ row ∈ loadComplementRows w n a, ∃ r : BitVec w.bits,
      (∀ j < w.bits, r.getLsbD j = decide (j ≠ n.toNat)) ∧
      Gives row.instr w row.dst r (flagsOf r false false s.st) 1 s)

/-- Addition and subtraction of 2^n (R239, R240, R244, R245, R255, R256), with C and OVR of the adder
(decisions D7 and D14; notes/assumptions/6.md, 10.md, 22.md, 24.md). The byte-mode write is D5
(notes/assumptions/21.md). -/
def Obligations.BitAddSubtractResult : Prop :=
  ∀ (w : Width) (n : BitNo) (a : Reg) (s : State), n.toNat < w.bits →
    let b := BitVec.ofNat w.bits (2 ^ n.toNat)
    (∀ row ∈ addPowerRows w n a s,
      let v := loW w row.src
      Gives row.instr w row.dst (v + b)
        (flagsOf (v + b) (decide (2 ^ w.bits ≤ v.toNat + 2 ^ n.toNat))
          (outOfRange w.bits (v.toInt + b.toInt)) s.st) 1 s) ∧
    (∀ row ∈ subtractPowerRows w n a s,
      let v := loW w row.src
      Gives row.instr w row.dst (v - b)
        (flagsOf (v - b) (decide (2 ^ n.toNat ≤ v.toNat))
          (outOfRange w.bits (v.toInt - b.toInt)) s.st) 1 s)

/-! ## Rotates -/

/-- The nine rotates (R272 to R281): result bit i is source bit (i - n) modulo the width (in byte mode, n
modulo 8: decision D19, notes/assumptions/28.md). The byte-mode write is D5 (notes/assumptions/21.md). -/
def Obligations.RotateResult : Prop :=
  ∀ (w : Width) (n : BitNo) (a : Reg) (s : State), ∀ row ∈ rotateRows w n a s,
    ∃ r : BitVec w.bits, (∀ i < w.bits, r.getLsbD i = rotatedBit (loW w row.src) n i) ∧
      Gives row.instr w row.dst r (flagsOf r false false s.st) 1 s

/-- A left rotate by n is undone by a left rotate by 16 - n (R271; in byte mode by decisions D19 and D5,
notes/assumptions/28.md and 21.md). -/
def Obligations.RotatesUndoEachOther : Prop :=
  ∀ (w : Width) (n : BitNo) (a : Reg) (s : State),
    ∃ t u, exec (.rotr1Rtrr w n a) s = .next t ∧ exec (.rotr1Rtrr w (-n) a) t = .next u ∧
      u.reg a = s.reg a

/-- Rotate and compare (R291 to R295): Y shows the unmasked positions where the rotated operand and the other
one differ, Z is 1 exactly where they agree in all of them, and no register is written (Y and N are the
spec's decision D18). -/
def Obligations.CompareResult : Prop :=
  ∀ (w : Width) (n : BitNo) (a : Reg) (imm : Word) (s : State), ∀ row ∈ compareRows w n a imm s,
    ∃ r : BitVec w.bits,
      (∀ i < w.bits, r.getLsbD i =
        (!row.mask.getLsbD i && (rotatedBit (loW w row.u) n i != row.r.getLsbD i))) ∧
      (r = 0 ↔ ∀ i < w.bits, row.mask.getLsbD i = false →
        rotatedBit (loW w row.u) n i = row.r.getLsbD i) ∧
      Gives row.instr w row.dst r (flagsOf r false false s.st) row.words s

/-- Rotate and merge (R297 at the operands of R298 to R303): result bit i is bit i of the rotated operand where
the mask bit is 1, else bit i of the other operand, whose place receives the result. The byte-mode count is D19
(notes/assumptions/28.md), the byte-mode write D5 (notes/assumptions/21.md). -/
def Obligations.MergeResult : Prop :=
  ∀ (w : Width) (n : BitNo) (a : Reg) (imm : Word) (s : State), ∀ row ∈ mergeRows w n a imm s,
    ∃ r : BitVec w.bits,
      (∀ i < w.bits, r.getLsbD i =
        if row.mask.getLsbD i then rotatedBit (loW w row.u) n i else row.r.getLsbD i) ∧
      Gives row.instr w row.dst r (flagsOf r false false s.st) row.words s

/-! ## Prioritize, CRC -/

/-- Prioritize (R311, R312 at the operands of R313 to R329): the code is 0 where no unmasked bit of R is 1, else
the width less the number of the highest one (decisions D20 and D21; notes/assumptions/13.md, 26.md). The
mask 0 of PRZ is D13 (notes/assumptions/27.md), the byte-mode write D5 (notes/assumptions/21.md). -/
def Obligations.PrioritizeResult : Prop :=
  ∀ (w : Width) (a : Reg) (imm : Word) (s : State), ∀ row ∈ priorityRows w a imm s,
    let t := fun j => row.r.getLsbD j && !row.mask.getLsbD j
    ∃ r : BitVec w.bits,
      ((∀ j < w.bits, t j = false) → r = 0) ∧
      (∀ j < w.bits, t j = true → (∀ m < w.bits, j < m → t m = false) → r.toNat = w.bits - j) ∧
      Gives row.instr w row.dst r (flagsOf r false false s.st) row.words s

/-- CRCF (R342), bit by bit from Табл. 10.22. -/
def Obligations.CrcForwardStep : Prop :=
  ∀ (a : Reg) (s : State), ∃ r : BitVec 16,
    (∀ i < 16, r.getLsbD i =
      (((s.st.l != (s.reg a).getLsbD 15) && s.acc.getLsbD i) !=
        if i = 0 then false else (s.reg a).getLsbD (i - 1))) ∧
    Gives (.crcf a) .word (.reg a) r
      { flagsOf r false false s.st with l := (s.reg a).getLsbD 15 } 1 s

/-- CRCR (R343), bit by bit from Табл. 10.22. -/
def Obligations.CrcReverseStep : Prop :=
  ∀ (a : Reg) (s : State), ∃ r : BitVec 16,
    (∀ i < 16, r.getLsbD i =
      (((s.st.l != (s.reg a).getLsbD 0) && s.acc.getLsbD i) !=
        if i = 15 then false else (s.reg a).getLsbD (i + 1))) ∧
    Gives (.crcr a) .word (.reg a) r
      { flagsOf r false false s.st with l := (s.reg a).getLsbD 0 } 1 s

/-- The two CRC steps mirror each other: CRCR on the reversed check-sum register with the reversed mask is
CRCF, reversed (R342, R343). -/
def Obligations.CrcStepsMirror : Prop :=
  ∀ (a : Reg) (s u : State),
    u.reg a = (s.reg a).reverse → u.acc = s.acc.reverse → u.st.l = s.st.l →
      ∃ t v, exec (.crcf a) s = .next t ∧ exec (.crcr a) u = .next v ∧
        v.reg a = (t.reg a).reverse ∧ v.st.l = t.st.l ∧ v.st.z = t.st.z

/-! ## Status instructions, NOP -/

/-- The five SETST instructions (R352 to R356): the named bits become 1, all others stay, Y is all ones
(decision D23). -/
def Obligations.SetStatusResult : Prop :=
  ∀ s : State,
    SetsStatus .setstSonccz 0xFFFF { s.st with ovr := true, n := true, c := true, z := true } s ∧
    SetsStatus .setstSl 0xFFFF { s.st with l := true } s ∧
    SetsStatus .setstSf1 0xFFFF { s.st with fl1 := true } s ∧
    SetsStatus .setstSf2 0xFFFF { s.st with fl2 := true } s ∧
    SetsStatus .setstSf3 0xFFFF { s.st with fl3 := true } s

/-- The five RSTST instructions (R357 to R361): the named bits become 0, all others stay, Y is all zeros
(decision D23). -/
def Obligations.ResetStatusResult : Prop :=
  ∀ s : State,
    SetsStatus .rststRonccz 0 { s.st with ovr := false, n := false, c := false, z := false } s ∧
    SetsStatus .rststRl 0 { s.st with l := false } s ∧
    SetsStatus .rststRf1 0 { s.st with fl1 := false } s ∧
    SetsStatus .rststRf2 0 { s.st with fl2 := false } s ∧
    SetsStatus .rststRf3 0 { s.st with fl3 := false } s

/-- SVSTR and SVSTNR (R371 to R373): РгС on Y[7:0] and 0 on Y[15:8] in both modes; the destination takes the low
byte or the word; РгС and every other register stay. The bit positions are notes/assumptions/8.md, the
destination NRY and the unchanged РгС are decision D24. -/
def Obligations.SaveStatusResult : Prop :=
  ∀ (w : Width) (a : Reg) (s : State),
    ∀ p ∈ [(Instr.svstr w a, Dst.reg a), (.svstnrNry w, .y), (.svstnrNra w, .acc)],
      ∃ t, exec p.1 s = .next t ∧ t.y = 0x00#8 ++ statusByte s.st ∧
        Delivers w p.2 (loW w (0x00#8 ++ statusByte s.st)) s.st 1 s t

/-- A status saved in Акк and loaded back, with anything in between that leaves Акк alone, is the status
that was saved (R373, R35; that a word-mode load puts all eight bits in place of the computed flags is decision
D10, notes/assumptions/33.md). -/
def Obligations.StatusRoundTrip : Prop :=
  ∀ s u : State, ∃ t, exec (.svstnrNra .word) s = .next t ∧
    (u.acc = t.acc → ∃ v, exec (.sonrMoveSoaNrs .word) u = .next v ∧ v.st = s.st)

/-- The twelve TSTST instructions (R376, R378 to R389): CT is the condition, no register changes (the level 1
for true is notes/assumptions/14.md). -/
def Obligations.TestConditions : Prop :=
  ∀ s : State, ∀ p ∈ testConditions s.st, TestsCondition p.1 p.2 s

/-- The condition the host selects on T(4:1) is the one of the TSTST instruction with the same I(4:1), and the
codes above 1011 select none (R377; decisions D25 and D37). The codes are the default of `CODES`
(notes/assumptions/3.md), the observation notes/assumptions/19.md. -/
def Obligations.TestBusAgreesWithTest : Prop :=
  (∀ s : State, ∀ p ∈ testConditions s.st, ∃ t word, exec p.1 s = .next t ∧ encode p.1 = [word] ∧
    ctViaT (word.extractLsb' 1 4) s.st = some t.ct) ∧
  ∀ (code : BitVec 4) (st : Status), ctViaT code st = none ↔ 0b1011 < code.toNat

/-- NOP changes no register (R390). -/
def Obligations.NopResult : Prop :=
  ∀ s : State, ∃ t, exec .nop s = .next t ∧ t.st = s.st ∧ KeepsRegisters s t

/-! ## Whole-machine rules -/

/-- A byte-mode instruction keeps the high byte of Акк and of every register-file entry (R26, decision
D5). -/
def Obligations.ByteModeKeepsHighBytes : Prop :=
  ∀ (i : Instr) (s t : State), widthField i.format = some .byte → exec i s = .next t →
    t.acc.extractLsb' 8 8 = s.acc.extractLsb' 8 8 ∧
    ∀ b : Reg, (t.reg b).extractLsb' 8 8 = (s.reg b).extractLsb' 8 8

/-- A byte-mode instruction ignores the high bytes: from two states that agree but for the high bytes and
the outputs it leads to two such states, with the same low byte on the Y bus (R26, R217, R330; decision
D5). -/
def Obligations.ByteModeIgnoresHighBytes : Prop :=
  ∀ (i : Instr) (s t s' : State), widthField i.format = some .byte → LowBytesAgree s t →
    exec i s = .next s' →
      ∃ t', exec i t = .next t' ∧ LowBytesAgree s' t' ∧ loW .byte s'.y = loW .byte t'.y

/-- FL1, FL2 and FL3 are written only by SETST, RSTST and loads of РгС (R362). -/
def Obligations.UserFlagsWrittenOnlyBy : Prop :=
  ∀ (i : Instr) (s t : State), setsOrResetsStatus i.format = false → loadsStatus i.format = false →
    exec i s = .next t → t.st.fl1 = s.st.fl1 ∧ t.st.fl2 = s.st.fl2 ∧ t.st.fl3 = s.st.fl3

/-- L is written only by shifts, CRC steps, SETST, RSTST and loads of РгС; status saves, tests and NOP write no
status bit (R25; for SVSTR and SVSTNR decision D24, notes/assumptions/30.md). -/
def Obligations.LinkWrittenOnlyBy : Prop :=
  ∀ (i : Instr) (s t : State), exec i s = .next t →
    (shiftsThroughLink i.format = false → setsOrResetsStatus i.format = false →
      loadsStatus i.format = false → t.st.l = s.st.l) ∧
    (keepsStatus i.format = true → t.st = s.st)

/-- An instruction changes no register-file entry but the one it addresses (R20), and Акк only where Акк is a
destination (R21). -/
def Obligations.RegistersWrittenOnlyBy : Prop :=
  ∀ (i : Instr) (s t : State), exec i s = .next t →
    (∀ b : Reg, addressField i.format ≠ some b → t.reg b = s.reg b) ∧
    (writesAccumulator i.format = false → t.acc = s.acc)

/-- No instruction reads the Y bus or CT: two runs that differ only in the outputs they start with end
alike (10_state.md section 1). -/
def Obligations.OutputsAreNeverRead : Prop :=
  ∀ (k : Nat) (s : State) (y : Word) (ct : Bool),
    runSteps (k + 1) { s with y := y, ct := ct } = runSteps (k + 1) s

/-! ## Shared operations -/

/-- `add_w` of R8: the sum modulo 2^k, the carry out, and the overflow exactly where the signed sum does not
fit. -/
def Obligations.AdderMeaning : Prop :=
  ∀ (k : Nat) (a b : BitVec k) (cin : Bool), 0 < k →
    (addW a b cin).sum.toNat = (a.toNat + b.toNat + cin.toNat) % 2 ^ k ∧
    (addW a b cin).cout = decide (2 ^ k ≤ a.toNat + b.toNat + cin.toNat) ∧
    (addW a b cin).ovf = outOfRange k (a.toInt + b.toInt + cin.toNat)

/-- `write_w` of R8: all of a register in word mode, its low byte under the old high byte in byte mode. -/
def Obligations.RegisterWriteMeaning : Prop :=
  (∀ old r : Word, writeW .word old r = r) ∧
  ∀ (old : Word) (r : BitVec 8), (writeW .byte old r).extractLsb' 0 8 = r ∧
    (writeW .byte old r).extractLsb' 8 8 = old.extractLsb' 8 8

/-! ## The configuration -/

/-- The machine under the defaults of R5 is this machine: its decoder reads every list of words alike, its
encoder writes every instruction alike, its effects and its step are the same, and it starts at the same
state. The defaults of `CODES`, `ROTNR_CODE85` and `RESET_STATE` are notes/assumptions/3.md and
notes/assumptions/1.md; how the configuration is taken is notes/assumptions/39.md. -/
def Obligations.DefaultConfigurationIsThisMachine : Prop :=
  (∀ ws : List Word, decodeWith .standard ws = decode ws) ∧
  (∀ i : Instr, encodeWith .standard i = encode i) ∧
  (∀ (i : Instr) (s : State), execWith Configuration.standard.params i s = exec i s) ∧
  (∀ s : State, stepWith .standard s = step s) ∧
  Configuration.standard.resetState = State.reset ∧
  ∀ (code : BitVec 4) (st : Status), ctViaTWith .standard code st = ctViaT code st

/-- Under every assignment of codes (`CODES` and `ROTNR_CODE85`, R5) an instruction is read only from its own
words, and its words give it back wherever the assignment gives its first word to no other row (the
condition of R96; that a word with two readings is none is notes/assumptions/39.md). -/
def Obligations.AnyCodesDecodeAndEncodeAgree : Prop :=
  ∀ c : Codes,
    (∀ (ws rest : List Word) (i : Instr), decodeWith c ws = .ok i rest → ws = encodeWith c i ++ rest) ∧
    ∀ (i : Instr) (rest : List Word), (∀ j : Instr, encodeWith c j = encodeWith c i → j = i) →
      (∀ j : Instr, (encodeWith c j).head? = (encodeWith c i).head? →
        (encodeWith c j).length = (encodeWith c i).length) →
      decodeWith c (encodeWith c i ++ rest) = .ok i rest

end
end

