-- ==== Sys2Proof/Laws/Format.lean ====
section
/-! SUPPORT. Formats, code tables and fields: each view of an instruction gives the others back. -/

namespace Sys2Proof

/-- The instruction of a format has that format. -/
@[simp] theorem format_instr (f : Format) : f.instr.format = f := by
  cases f with
  | sor op form w a => cases op <;> cases form <;> rfl
  | sonr op src dst w => cases op <;> cases src <;> cases dst <;> rfl
  | tor1 form op w a => cases form <;> cases op <;> rfl
  | tor2 form op w a => cases form <;> cases op <;> rfl
  | tonr form op dst w => cases form <;> cases op <;> cases dst <;> rfl
  | shftr form op w a => cases form <;> cases op <;> rfl
  | shftnr src op dst w => cases src <;> cases op <;> cases dst <;> rfl
  | bor1 op w n a => cases op <;> rfl
  | bor2 op w n a => cases op <;> rfl
  | bonr op w n => cases op <;> rfl
  | rotr1 form w n a => cases form <;> rfl
  | rotr2 form w n a => cases form <;> rfl
  | rotnr form w n => cases form <;> rfl
  | rotc form w n a => cases form <;> rfl
  | rotm form w n a => cases form <;> rfl
  | prt1 dst src w a => cases dst <;> cases src <;> rfl
  | prt2 mask dst w a => cases mask <;> cases dst <;> rfl
  | prt3 mask src w a => cases mask <;> cases src <;> rfl
  | prtnr mask src dst w => cases mask <;> cases src <;> cases dst <;> rfl
  | setst op => cases op <;> rfl
  | rstst op => cases op <;> rfl
  | svstnr dst w => cases dst <;> rfl
  | tstst cond => cases cond <;> rfl
  | crcf | crcr | svstr | nop => rfl

/-- The format of an instruction stands for that instruction. -/
@[simp] theorem instr_format (i : Instr) : i.format.instr = i := by cases i <;> rfl

/-- A width's bit gives the width back. -/
@[simp] theorem ofBit_bit (w : Width) : Width.ofBit w.bit = w := by cases w <;> rfl

/-- A bit's width gives the bit back. -/
@[simp] theorem bit_ofBit (b : BitVec 1) : (Width.ofBit b).bit = b := by
  revert b; decide

/-- The five fields of a concatenation in the order of R70. -/
theorem fields_append (b : BitVec 1) (q : BitVec 2) (f1 f2 : BitVec 4) (f3 : BitVec 5) :
    (b ++ q ++ f1 ++ f2 ++ f3).extractLsb' 15 1 = b ∧
    (b ++ q ++ f1 ++ f2 ++ f3).extractLsb' 13 2 = q ∧
    (b ++ q ++ f1 ++ f2 ++ f3).extractLsb' 9 4 = f1 ∧
    (b ++ q ++ f1 ++ f2 ++ f3).extractLsb' 5 4 = f2 ∧
    (b ++ q ++ f1 ++ f2 ++ f3).extractLsb' 0 5 = f3 := by
  refine ⟨?_, ?_, ?_, ?_, ?_⟩ <;> (
    apply BitVec.eq_of_getLsbD_eq
    intro i hi
    simp only [BitVec.getLsbD_extractLsb', BitVec.getLsbD_append]
    interval_cases i <;> simp)

/-- The fields of an assembled word. -/
@[simp] theorem fieldsOf_assemble (f : Fields) : fieldsOf f.assemble = f := by
  obtain ⟨w, q, f1, f2, f3⟩ := f
  obtain ⟨h1, h2, h3, h4, h5⟩ := fields_append w.bit q f1 f2 f3
  simp only [fieldsOf, Fields.assemble]
  rw [h1, h2, h3, h4, h5, ofBit_bit]

/-- The word assembled from a word's fields. -/
@[simp] theorem assemble_fieldsOf (i : Word) : (fieldsOf i).assemble = i := by
  apply BitVec.eq_of_getLsbD_eq
  intro k hk
  simp only [Fields.assemble, fieldsOf, bit_ofBit, BitVec.getLsbD_append,
    BitVec.getLsbD_extractLsb']
  interval_cases k <;> simp

end Sys2Proof
end

