-- ==== Sys2Proof/Laws/Codes.lean ====
section
/-! SUPPORT. The code tables of R81 to R106: decoding and encoding direction give each other back. -/

namespace Sys2Proof

/-! ## A code decodes to what it encodes -/

@[simp] theorem SingleOp.ofCode_code (v : SingleOp) : SingleOp.ofCode v.code = some v := by
  cases v <;> rfl
@[simp] theorem TwoOp.ofCode_code (v : TwoOp) : TwoOp.ofCode v.code = some v := by
  cases v <;> rfl
@[simp] theorem ShiftOp.ofCode_code (v : ShiftOp) : ShiftOp.ofCode v.code = some v := by
  cases v <;> rfl
@[simp] theorem Bor1Op.ofCode_code (v : Bor1Op) : Bor1Op.ofCode v.code = some v := by
  cases v <;> rfl
@[simp] theorem Bor2Op.ofCode_code (v : Bor2Op) : Bor2Op.ofCode v.code = some v := by
  cases v <;> rfl
@[simp] theorem Rotr1Form.ofCode_code (v : Rotr1Form) : Rotr1Form.ofCode v.code = some v := by
  cases v <;> rfl
@[simp] theorem Rotr2Form.ofCode_code (v : Rotr2Form) : Rotr2Form.ofCode v.code = some v := by
  cases v <;> rfl
@[simp] theorem Prt1Dest.ofCode_code (v : Prt1Dest) : Prt1Dest.ofCode v.code = some v := by
  cases v <;> rfl
@[simp] theorem Prt1Source.ofCode_code (v : Prt1Source) : Prt1Source.ofCode v.code = some v := by
  cases v <;> rfl
@[simp] theorem Prt2Dest.ofCode_code (v : Prt2Dest) : Prt2Dest.ofCode v.code = some v := by
  cases v <;> rfl
@[simp] theorem Prt3Source.ofCode_code (v : Prt3Source) : Prt3Source.ofCode v.code = some v := by
  cases v <;> rfl
@[simp] theorem PrtnrSource.ofCode_code (v : PrtnrSource) : PrtnrSource.ofCode v.code = some v := by
  cases v <;> rfl
@[simp] theorem NrDest.ofCode_code (v : NrDest) : NrDest.ofCode v.code = some v := by
  cases v <;> rfl
@[simp] theorem NrShortDest.ofCode_code (v : NrShortDest) : NrShortDest.ofCode v.code = some v := by
  cases v <;> rfl
@[simp] theorem BonrOp.ofCode_code (v : BonrOp) : BonrOp.ofCode v.code = some v := by
  cases v <;> rfl
@[simp] theorem RotnrForm.ofCode_code (v : RotnrForm) : RotnrForm.ofCode v.code = some v := by
  cases v <;> rfl
@[simp] theorem SetOp.ofCode_code (v : SetOp) : SetOp.ofCode v.code = some v := by
  cases v <;> rfl
@[simp] theorem RstOp.ofCode_code (v : RstOp) : RstOp.ofCode v.code = some v := by
  cases v <;> rfl
@[simp] theorem TestCond.ofCode_code (v : TestCond) : TestCond.ofCode v.code = some v := by
  cases v <;> rfl

/-! The tables whose mnemonics may carry the immediate word: `imm` is the word after the instruction
word, and it must be the one the form carries. -/

theorem SorForm.ofCode_code (imm : Word) (v : SorForm) (h : v.immediate.getD imm = imm) :
    SorForm.ofCode imm v.code = some v := by
  cases v <;> first | rfl | (simp only [SorForm.immediate, Option.getD_some] at h; subst h; rfl)
theorem SonrSource.ofCode_code (imm : Word) (v : SonrSource) (h : v.immediate.getD imm = imm) :
    SonrSource.ofCode imm v.code = some v := by
  cases v <;> first | rfl | (simp only [SonrSource.immediate, Option.getD_some] at h; subst h; rfl)
theorem Tor1Form.ofCode_code (imm : Word) (v : Tor1Form) (h : v.immediate.getD imm = imm) :
    Tor1Form.ofCode imm v.code = some v := by
  cases v <;> first | rfl | (simp only [Tor1Form.immediate, Option.getD_some] at h; subst h; rfl)
theorem Tor2Form.ofCode_code (imm : Word) (v : Tor2Form) (h : v.immediate.getD imm = imm) :
    Tor2Form.ofCode imm v.code = some v := by
  cases v <;> first | rfl | (simp only [Tor2Form.immediate, Option.getD_some] at h; subst h; rfl)
theorem TonrForm.ofCode_code (imm : Word) (v : TonrForm) (h : v.immediate.getD imm = imm) :
    TonrForm.ofCode imm v.code = some v := by
  cases v <;> first | rfl | (simp only [TonrForm.immediate, Option.getD_some] at h; subst h; rfl)
theorem RotcForm.ofCode_code (imm : Word) (v : RotcForm) (h : v.immediate.getD imm = imm) :
    RotcForm.ofCode imm v.code = some v := by
  cases v <;> first | rfl | (simp only [RotcForm.immediate, Option.getD_some] at h; subst h; rfl)
theorem RotmForm.ofCode_code (imm : Word) (v : RotmForm) (h : v.immediate.getD imm = imm) :
    RotmForm.ofCode imm v.code = some v := by
  cases v <;> first | rfl | (simp only [RotmForm.immediate, Option.getD_some] at h; subst h; rfl)
theorem PrtMask.ofCode_code (imm : Word) (v : PrtMask) (h : v.immediate.getD imm = imm) :
    PrtMask.ofCode imm v.code = some v := by
  cases v <;> first | rfl | (simp only [PrtMask.immediate, Option.getD_some] at h; subst h; rfl)

/-! ## What a code decodes to has that code -/

theorem SingleOp.code_of_ofCode {c : BitVec 4} {v : SingleOp} (h : SingleOp.ofCode c = some v) :
    v.code = c := by
  unfold SingleOp.ofCode at h
  split at h <;> cases h <;> rfl
theorem TwoOp.code_of_ofCode {c : BitVec 4} {v : TwoOp} (h : TwoOp.ofCode c = some v) :
    v.code = c := by
  unfold TwoOp.ofCode at h
  split at h <;> cases h <;> rfl
theorem ShiftOp.code_of_ofCode {c : BitVec 4} {v : ShiftOp} (h : ShiftOp.ofCode c = some v) :
    v.code = c := by
  unfold ShiftOp.ofCode at h
  split at h <;> cases h <;> rfl
theorem Bor1Op.code_of_ofCode {c : BitVec 4} {v : Bor1Op} (h : Bor1Op.ofCode c = some v) :
    v.code = c := by
  unfold Bor1Op.ofCode at h
  split at h <;> cases h <;> rfl
theorem Bor2Op.code_of_ofCode {c : BitVec 4} {v : Bor2Op} (h : Bor2Op.ofCode c = some v) :
    v.code = c := by
  unfold Bor2Op.ofCode at h
  split at h <;> cases h <;> rfl
theorem Rotr1Form.code_of_ofCode {c : BitVec 4} {v : Rotr1Form} (h : Rotr1Form.ofCode c = some v) :
    v.code = c := by
  unfold Rotr1Form.ofCode at h
  split at h <;> cases h <;> rfl
theorem Rotr2Form.code_of_ofCode {c : BitVec 4} {v : Rotr2Form} (h : Rotr2Form.ofCode c = some v) :
    v.code = c := by
  unfold Rotr2Form.ofCode at h
  split at h <;> cases h <;> rfl
theorem Prt1Dest.code_of_ofCode {c : BitVec 4} {v : Prt1Dest} (h : Prt1Dest.ofCode c = some v) :
    v.code = c := by
  unfold Prt1Dest.ofCode at h
  split at h <;> cases h <;> rfl
theorem Prt1Source.code_of_ofCode {c : BitVec 4} {v : Prt1Source} (h : Prt1Source.ofCode c = some v) :
    v.code = c := by
  unfold Prt1Source.ofCode at h
  split at h <;> cases h <;> rfl
theorem Prt2Dest.code_of_ofCode {c : BitVec 4} {v : Prt2Dest} (h : Prt2Dest.ofCode c = some v) :
    v.code = c := by
  unfold Prt2Dest.ofCode at h
  split at h <;> cases h <;> rfl
theorem Prt3Source.code_of_ofCode {c : BitVec 4} {v : Prt3Source} (h : Prt3Source.ofCode c = some v) :
    v.code = c := by
  unfold Prt3Source.ofCode at h
  split at h <;> cases h <;> rfl
theorem PrtnrSource.code_of_ofCode {c : BitVec 4} {v : PrtnrSource} (h : PrtnrSource.ofCode c = some v) :
    v.code = c := by
  unfold PrtnrSource.ofCode at h
  split at h <;> cases h <;> rfl
theorem NrDest.code_of_ofCode {c : BitVec 5} {v : NrDest} (h : NrDest.ofCode c = some v) :
    v.code = c := by
  unfold NrDest.ofCode at h
  split at h <;> cases h <;> rfl
theorem NrShortDest.code_of_ofCode {c : BitVec 5} {v : NrShortDest} (h : NrShortDest.ofCode c = some v) :
    v.code = c := by
  unfold NrShortDest.ofCode at h
  split at h <;> cases h <;> rfl
theorem BonrOp.code_of_ofCode {c : BitVec 5} {v : BonrOp} (h : BonrOp.ofCode c = some v) :
    v.code = c := by
  unfold BonrOp.ofCode at h
  split at h <;> cases h <;> rfl
theorem RotnrForm.code_of_ofCode {c : BitVec 5} {v : RotnrForm} (h : RotnrForm.ofCode c = some v) :
    v.code = c := by
  unfold RotnrForm.ofCode at h
  split at h <;> cases h <;> rfl
theorem SetOp.code_of_ofCode {c : BitVec 5} {v : SetOp} (h : SetOp.ofCode c = some v) :
    v.code = c := by
  unfold SetOp.ofCode at h
  split at h <;> cases h <;> rfl
theorem RstOp.code_of_ofCode {c : BitVec 5} {v : RstOp} (h : RstOp.ofCode c = some v) :
    v.code = c := by
  unfold RstOp.ofCode at h
  split at h <;> cases h <;> rfl
theorem TestCond.code_of_ofCode {c : BitVec 5} {v : TestCond} (h : TestCond.ofCode c = some v) :
    v.code = c := by
  unfold TestCond.ofCode at h
  split at h <;> cases h <;> rfl
theorem SorForm.code_of_ofCode {imm : Word} {c : BitVec 4} {v : SorForm}
    (h : SorForm.ofCode imm c = some v) : v.code = c ∧ v.immediate.getD imm = imm := by
  unfold SorForm.ofCode at h
  split at h <;> cases h <;> exact ⟨rfl, rfl⟩
theorem SonrSource.code_of_ofCode {imm : Word} {c : BitVec 4} {v : SonrSource}
    (h : SonrSource.ofCode imm c = some v) : v.code = c ∧ v.immediate.getD imm = imm := by
  unfold SonrSource.ofCode at h
  split at h <;> cases h <;> exact ⟨rfl, rfl⟩
theorem Tor1Form.code_of_ofCode {imm : Word} {c : BitVec 4} {v : Tor1Form}
    (h : Tor1Form.ofCode imm c = some v) : v.code = c ∧ v.immediate.getD imm = imm := by
  unfold Tor1Form.ofCode at h
  split at h <;> cases h <;> exact ⟨rfl, rfl⟩
theorem Tor2Form.code_of_ofCode {imm : Word} {c : BitVec 4} {v : Tor2Form}
    (h : Tor2Form.ofCode imm c = some v) : v.code = c ∧ v.immediate.getD imm = imm := by
  unfold Tor2Form.ofCode at h
  split at h <;> cases h <;> exact ⟨rfl, rfl⟩
theorem TonrForm.code_of_ofCode {imm : Word} {c : BitVec 4} {v : TonrForm}
    (h : TonrForm.ofCode imm c = some v) : v.code = c ∧ v.immediate.getD imm = imm := by
  unfold TonrForm.ofCode at h
  split at h <;> cases h <;> exact ⟨rfl, rfl⟩
theorem RotcForm.code_of_ofCode {imm : Word} {c : BitVec 4} {v : RotcForm}
    (h : RotcForm.ofCode imm c = some v) : v.code = c ∧ v.immediate.getD imm = imm := by
  unfold RotcForm.ofCode at h
  split at h <;> cases h <;> exact ⟨rfl, rfl⟩
theorem RotmForm.code_of_ofCode {imm : Word} {c : BitVec 4} {v : RotmForm}
    (h : RotmForm.ofCode imm c = some v) : v.code = c ∧ v.immediate.getD imm = imm := by
  unfold RotmForm.ofCode at h
  split at h <;> cases h <;> exact ⟨rfl, rfl⟩
theorem PrtMask.code_of_ofCode {imm : Word} {c : BitVec 4} {v : PrtMask}
    (h : PrtMask.ofCode imm c = some v) : v.code = c ∧ v.immediate.getD imm = imm := by
  unfold PrtMask.ofCode at h
  split at h <;> cases h <;> exact ⟨rfl, rfl⟩

/-! ## The fields of each format under the default codes -/

@[simp] theorem Format.fields_sor (op : SingleOp) (form : SorForm) (w : Width) (a : Reg) :
    (Format.sor op form w a).fields = ⟨w, 0b10#2, op.code, form.code, a⟩ := rfl
@[simp] theorem Format.fields_sonr (op : SingleOp) (src : SonrSource) (dst : NrDest) (w : Width) :
    (Format.sonr op src dst w).fields = ⟨w, 0b11#2, op.code, src.code, dst.code⟩ := rfl
@[simp] theorem Format.fields_tor1 (form : Tor1Form) (op : TwoOp) (w : Width) (a : Reg) :
    (Format.tor1 form op w a).fields = ⟨w, 0b00#2, form.code, op.code, a⟩ := rfl
@[simp] theorem Format.fields_tor2 (form : Tor2Form) (op : TwoOp) (w : Width) (a : Reg) :
    (Format.tor2 form op w a).fields = ⟨w, 0b10#2, form.code, op.code, a⟩ := rfl
@[simp] theorem Format.fields_tonr (form : TonrForm) (op : TwoOp) (dst : NrDest) (w : Width) :
    (Format.tonr form op dst w).fields = ⟨w, 0b11#2, form.code, op.code, dst.code⟩ := rfl
@[simp] theorem Format.fields_shftr (form : ShftrForm) (op : ShiftOp) (w : Width) (a : Reg) :
    (Format.shftr form op w a).fields = ⟨w, 0b10#2, form.code, op.code, a⟩ := rfl
@[simp] theorem Format.fields_shftnr (src : ShftnrSource) (op : ShiftOp) (dst : NrShortDest) (w : Width) :
    (Format.shftnr src op dst w).fields = ⟨w, 0b11#2, src.code, op.code, dst.code⟩ := rfl
@[simp] theorem Format.fields_bor1 (op : Bor1Op) (w : Width) (n : BitNo) (a : Reg) :
    (Format.bor1 op w n a).fields = ⟨w, 0b11#2, n, op.code, a⟩ := rfl
@[simp] theorem Format.fields_bor2 (op : Bor2Op) (w : Width) (n : BitNo) (a : Reg) :
    (Format.bor2 op w n a).fields = ⟨w, 0b10#2, n, op.code, a⟩ := rfl
@[simp] theorem Format.fields_bonr (op : BonrOp) (w : Width) (n : BitNo) :
    (Format.bonr op w n).fields = ⟨w, 0b11#2, n, 0b1100#4, op.code⟩ := rfl
@[simp] theorem Format.fields_rotr1 (form : Rotr1Form) (w : Width) (n : BitNo) (a : Reg) :
    (Format.rotr1 form w n a).fields = ⟨w, 0b00#2, n, form.code, a⟩ := rfl
@[simp] theorem Format.fields_rotr2 (form : Rotr2Form) (w : Width) (n : BitNo) (a : Reg) :
    (Format.rotr2 form w n a).fields = ⟨w, 0b01#2, n, form.code, a⟩ := rfl
@[simp] theorem Format.fields_rotnr (form : RotnrForm) (w : Width) (n : BitNo) :
    (Format.rotnr form w n).fields = ⟨w, 0b11#2, n, 0b1100#4, form.code⟩ := rfl
@[simp] theorem Format.fields_rotc (form : RotcForm) (w : Width) (n : BitNo) (a : Reg) :
    (Format.rotc form w n a).fields = ⟨w, 0b01#2, n, form.code, a⟩ := rfl
@[simp] theorem Format.fields_rotm (form : RotmForm) (w : Width) (n : BitNo) (a : Reg) :
    (Format.rotm form w n a).fields = ⟨w, 0b01#2, n, form.code, a⟩ := rfl
@[simp] theorem Format.fields_prt1 (dst : Prt1Dest) (src : Prt1Source) (w : Width) (a : Reg) :
    (Format.prt1 dst src w a).fields = ⟨w, 0b10#2, dst.code, src.code, a⟩ := rfl
@[simp] theorem Format.fields_prt2 (mask : PrtMask) (dst : Prt2Dest) (w : Width) (a : Reg) :
    (Format.prt2 mask dst w a).fields = ⟨w, 0b10#2, mask.code, dst.code, a⟩ := rfl
@[simp] theorem Format.fields_prt3 (mask : PrtMask) (src : Prt3Source) (w : Width) (a : Reg) :
    (Format.prt3 mask src w a).fields = ⟨w, 0b10#2, mask.code, src.code, a⟩ := rfl
@[simp] theorem Format.fields_prtnr (mask : PrtMask) (src : PrtnrSource) (dst : NrShortDest) (w : Width) :
    (Format.prtnr mask src dst w).fields = ⟨w, 0b11#2, mask.code, src.code, dst.code⟩ := rfl
@[simp] theorem Format.fields_crcf (a : Reg) :
    (Format.crcf a).fields = ⟨.word, 0b10#2, 0b0110#4, 0b0011#4, a⟩ := rfl
@[simp] theorem Format.fields_crcr (a : Reg) :
    (Format.crcr a).fields = ⟨.word, 0b10#2, 0b0110#4, 0b1001#4, a⟩ := rfl
@[simp] theorem Format.fields_setst (op : SetOp) :
    (Format.setst op).fields = ⟨.byte, 0b11#2, 0b1011#4, 0b1010#4, op.code⟩ := rfl
@[simp] theorem Format.fields_rstst (op : RstOp) :
    (Format.rstst op).fields = ⟨.byte, 0b11#2, 0b1010#4, 0b1010#4, op.code⟩ := rfl
@[simp] theorem Format.fields_svstr (w : Width) (a : Reg) :
    (Format.svstr w a).fields = ⟨w, 0b10#2, 0b0111#4, 0b1010#4, a⟩ := rfl
@[simp] theorem Format.fields_svstnr (dst : NrShortDest) (w : Width) :
    (Format.svstnr dst w).fields = ⟨w, 0b11#2, 0b0111#4, 0b1010#4, dst.code⟩ := rfl
@[simp] theorem Format.fields_tstst (cond : TestCond) :
    (Format.tstst cond).fields = ⟨.byte, 0b11#2, 0b1001#4, 0b1010#4, cond.code⟩ := rfl
@[simp] theorem Format.fields_nop :
    (Format.nop).fields = ⟨.byte, 0b11#2, 0b1000#4, 0b1010#4, 0b00000#5⟩ := rfl

end Sys2Proof
end

