-- ==== Sys2Proof/Laws/State.lean ====
section
/-! SUPPORT. One lemma per field of State per update, so that no proof unfolds a record update. -/

namespace Sys2Proof.Machine

variable (s : State) (a b : Reg) (v y : Word) (ct : Bool) (words : Nat) (w : Width) (dst : Dst)

/-! ## setReg -/

@[simp] theorem State.setReg_acc : (s.setReg a v).acc = s.acc := rfl
@[simp] theorem State.setReg_d : (s.setReg a v).d = s.d := rfl
@[simp] theorem State.setReg_st : (s.setReg a v).st = s.st := rfl
@[simp] theorem State.setReg_y : (s.setReg a v).y = s.y := rfl
@[simp] theorem State.setReg_ct : (s.setReg a v).ct = s.ct := rfl
@[simp] theorem State.setReg_prog : (s.setReg a v).prog = s.prog := rfl
@[simp] theorem State.setReg_ip : (s.setReg a v).ip = s.ip := rfl
@[simp] theorem State.setReg_dFeed : (s.setReg a v).dFeed = s.dFeed := rfl
@[simp] theorem State.setReg_draws : (s.setReg a v).draws = s.draws := rfl

/-- Reading an entry after a write: the value written there, and every other entry as before. -/
theorem State.reg_setReg : (s.setReg a v).reg b = if a = b then v else s.reg b := by
  by_cases h : a = b
  · subst h; simp [State.reg, State.setReg]
  · have h' : a.toNat ≠ b.toNat := fun e => h (BitVec.eq_of_toNat_eq e)
    simp [State.reg, State.setReg, h, h']

@[simp] theorem State.reg_setReg_same : (s.setReg a v).reg a = v := by simp [State.reg_setReg]

theorem State.reg_setReg_ne (h : a ≠ b) : (s.setReg a v).reg b = s.reg b := by
  simp [State.reg_setReg, h]

/-! ## finish -/

@[simp] theorem State.finish_reg : (s.finish y ct words).reg a = s.reg a := rfl
@[simp] theorem State.finish_acc : (s.finish y ct words).acc = s.acc := rfl
@[simp] theorem State.finish_d : (s.finish y ct words).d = s.d := rfl
@[simp] theorem State.finish_st : (s.finish y ct words).st = s.st := rfl
@[simp] theorem State.finish_y : (s.finish y ct words).y = y := rfl
@[simp] theorem State.finish_ct : (s.finish y ct words).ct = ct := rfl
@[simp] theorem State.finish_prog : (s.finish y ct words).prog = s.prog := rfl
@[simp] theorem State.finish_ip : (s.finish y ct words).ip = s.ip + words := rfl
@[simp] theorem State.finish_dFeed : (s.finish y ct words).dFeed = s.dFeed := rfl
@[simp] theorem State.finish_draws : (s.finish y ct words).draws = s.draws + 1 := rfl

/-! ## A new status register -/

variable (st : Status)

@[simp] theorem State.withStatus_reg : ({ s with st := st } : State).reg a = s.reg a := rfl

/-! ## write -/

variable (r : BitVec w.bits)

@[simp] theorem State.write_st : (s.write w dst r).st = s.st := by cases dst <;> rfl
@[simp] theorem State.write_y : (s.write w dst r).y = s.y := by cases dst <;> rfl
@[simp] theorem State.write_ct : (s.write w dst r).ct = s.ct := by cases dst <;> rfl
@[simp] theorem State.write_prog : (s.write w dst r).prog = s.prog := by cases dst <;> rfl
@[simp] theorem State.write_ip : (s.write w dst r).ip = s.ip := by cases dst <;> rfl
@[simp] theorem State.write_dFeed : (s.write w dst r).dFeed = s.dFeed := by cases dst <;> rfl
@[simp] theorem State.write_draws : (s.write w dst r).draws = s.draws := by cases dst <;> rfl

/-- A write changes Акк only where Акк is a destination. -/
theorem State.write_acc : (s.write w dst r).acc =
    if dst = .acc ∨ dst = .accSt then writeW w s.acc r else s.acc := by
  cases dst <;> simp [State.write]

/-- A write changes the one entry of the register file it names. -/
theorem State.write_reg : (s.write w dst r).reg b =
    if dst = .reg b then writeW w (s.reg b) r else s.reg b := by
  cases dst with
  | reg c =>
    by_cases h : c = b
    · subst h; simp [State.write]
    · simp [State.write, State.reg_setReg, h]
  | acc | st | accSt | y | d => rfl

/-- A write changes Рг.D only where Рг.D is a destination. -/
theorem State.write_d : (s.write w dst r).d = if dst = .d then writeW w s.d r else s.d := by
  cases dst <;> simp [State.write]

/-! ## hostMove -/

@[simp] theorem State.hostMove_reg : s.hostMove.reg a = s.reg a := by
  unfold State.hostMove; split <;> rfl
@[simp] theorem State.hostMove_acc : s.hostMove.acc = s.acc := by
  unfold State.hostMove; split <;> rfl
@[simp] theorem State.hostMove_st : s.hostMove.st = s.st := by
  unfold State.hostMove; split <;> rfl
@[simp] theorem State.hostMove_y : s.hostMove.y = s.y := by
  unfold State.hostMove; split <;> rfl
@[simp] theorem State.hostMove_ct : s.hostMove.ct = s.ct := by
  unfold State.hostMove; split <;> rfl
@[simp] theorem State.hostMove_prog : s.hostMove.prog = s.prog := by
  unfold State.hostMove; split <;> rfl
@[simp] theorem State.hostMove_ip : s.hostMove.ip = s.ip := by
  unfold State.hostMove; split <;> rfl
@[simp] theorem State.hostMove_draws : s.hostMove.draws = s.draws := by
  unfold State.hostMove; split <;> rfl
@[simp] theorem State.hostMove_stream : s.hostMove.stream = s.stream := by
  unfold State.hostMove; split <;> rfl

end Sys2Proof.Machine
end

