-- ==== Sys2Proof/Laws/Ops.lean ====
section
/-! SUPPORT. What each shared operation can do, said once. -/

namespace Sys2Proof.Machine

variable (s : State) (p : Params) (w : Width) (dst : Dst) (res : AluResult w.bits) (high : BitVec 8)
  (words : Nat)

/-! ## Byte and word views -/

/-- The low byte under any high byte. -/
theorem setWidth_append_byte (h r : BitVec 8) : (h ++ r).setWidth 8 = r := by
  apply BitVec.eq_of_getLsbD_eq
  intro i hi
  simp only [BitVec.getLsbD_setWidth, BitVec.getLsbD_append]
  simp [hi]

/-- A write of width `w` is read back at width `w`. -/
@[simp] theorem loW_writeW (old : Word) (r : BitVec w.bits) : loW w (writeW w old r) = r := by
  cases w
  · exact setWidth_append_byte _ r
  · exact BitVec.setWidth_eq r

/-- The result of width `w` on the Y bus is read back at width `w`. -/
@[simp] theorem loW_yBus (r : BitVec w.bits) : loW w (yBus w r high) = r := by
  cases w
  · exact setWidth_append_byte _ r
  · exact BitVec.setWidth_eq r

/-- A byte-mode write keeps the high byte (R26). -/
theorem writeW_byte_high (old : Word) (r : BitVec 8) :
    (writeW .byte old r).extractLsb' 8 8 = old.extractLsb' 8 8 := by
  apply BitVec.eq_of_getLsbD_eq
  intro i hi
  simp only [writeW, BitVec.getLsbD_extractLsb', BitVec.getLsbD_append]
  simp [hi]

/-! ## complete and deliver -/

theorem complete_acc : (s.complete p w dst res high words).acc =
    if dst = .acc ∨ dst = .accSt then writeW w s.acc res.value else s.acc :=
  s.write_acc w dst res.value

theorem complete_reg (b : Reg) : (s.complete p w dst res high words).reg b =
    if dst = .reg b then writeW w (s.reg b) res.value else s.reg b :=
  s.write_reg b w dst res.value

theorem complete_d : (s.complete p w dst res high words).d =
    if dst = .d then writeW w s.d res.value else s.d :=
  s.write_d w dst res.value

@[simp] theorem complete_st :
    (s.complete p w dst res high words).st = statusAfter p w dst res s.st := rfl
@[simp] theorem complete_y : (s.complete p w dst res high words).y = yBus w res.value high := rfl
@[simp] theorem complete_ct :
    (s.complete p w dst res high words).ct = Config.freeCT s.draws := rfl
@[simp] theorem complete_prog : (s.complete p w dst res high words).prog = s.prog :=
  s.write_prog w dst res.value
@[simp] theorem complete_ip : (s.complete p w dst res high words).ip = s.ip + words :=
  congrArg (· + words) (s.write_ip w dst res.value)
@[simp] theorem complete_dFeed : (s.complete p w dst res high words).dFeed = s.dFeed :=
  s.write_dFeed w dst res.value
@[simp] theorem complete_draws : (s.complete p w dst res high words).draws = s.draws + 1 :=
  congrArg (· + 1) (s.write_draws w dst res.value)

theorem deliver_eq : s.deliver p w dst res words =
    .next (s.complete p w dst res (Config.freeYHigh s.draws) words) := rfl

/-! ## The status register -/

/-- Where РгС is no destination, the operation's flag update stands. -/
theorem statusAfter_flags (st : Status) (h : dst.loadsStatus = false) :
    statusAfter p w dst res st = res.st := by simp [statusAfter, h]

/-- Where РгС is a destination, the load replaces the flag update (R35). -/
theorem statusAfter_load (st : Status) (h : dst.loadsStatus = true) :
    statusAfter p w dst res st = loadSt p w res.value st := by simp [statusAfter, h]

/-- РгС read as a byte and loaded back is РгС, under either layout. -/
@[simp] theorem ofByte_toByte (layout : StLayout) (st : Status) :
    Status.ofByte layout (st.toByte layout) = st := by
  obtain ⟨fl3, fl2, fl1, l, n, ovr, c, z⟩ := st
  cases layout <;> revert fl3 fl2 fl1 l n ovr c z <;> decide

@[simp] theorem setNZ_l {k : Nat} (r : BitVec k) (st : Status) : (setNZ r st).l = st.l := rfl
@[simp] theorem setNZ_fl1 {k : Nat} (r : BitVec k) (st : Status) : (setNZ r st).fl1 = st.fl1 := rfl
@[simp] theorem setNZ_fl2 {k : Nat} (r : BitVec k) (st : Status) : (setNZ r st).fl2 = st.fl2 := rfl
@[simp] theorem setNZ_fl3 {k : Nat} (r : BitVec k) (st : Status) : (setNZ r st).fl3 = st.fl3 := rfl

/-! ## The stream -/

/-- The words placed at the index are the words the next step reads. -/
theorem stream_withStream (ws : List Word) :
    (s.withStream ws).stream = ws ++ s.prog.drop (s.ip + ws.length) := by
  have h : (s.prog.take s.ip ++ List.replicate (s.ip - s.prog.length) (0 : Word)).length = s.ip := by
    simp; omega
  simp only [State.stream, State.withStream]
  rw [List.append_assoc]
  exact List.drop_left' h

end Sys2Proof.Machine
end

