-- ==== Sys2Proof/Laws/Exec.lean ====
section
/-! SUPPORT. What `exec` does, said once per format instead of once per constructor. -/

namespace Sys2Proof.Machine

/-- The meaning of a format: the shared operation every instruction of the format runs, at the defaults
of R5. -/
abbrev run (f : Format) (s : State) : Result := runFormat parameters f s

/-- Every instruction runs the meaning of its format. -/
theorem exec_eq_run (i : Instr) (s : State) : exec i s = run i.format s := by
  cases i <;> rfl

/-- The instruction of a format runs the meaning of the format. -/
theorem exec_instr (f : Format) (s : State) : exec f.instr s = run f s := by
  rw [exec_eq_run, format_instr]

/-- `exec` is the configured effect at the defaults of R5. -/
theorem exec_eq_execWith (i : Instr) (s : State) : exec i s = execWith parameters i s :=
  exec_eq_run i s

/-- Everything a step can do: run the instruction at the index, refuse a word that is none or whose
immediate word is missing, or stop at the end of the stream. -/
theorem stepBy_cases (decoder : List Word → DecodeResult) (effect : Instr → State → Result) (s : State) :
    (∃ i rest, decoder s.hostMove.stream = .ok i rest ∧ stepBy decoder effect s = effect i s.hostMove) ∨
    (∃ word, decoder s.hostMove.stream = .undecodable word ∧
      stepBy decoder effect s = .refused (.undecodableWord word)) ∨
    (decoder s.hostMove.stream = .immediateMissing ∧
      stepBy decoder effect s = .refused .immediateOperandMissing) ∨
    (decoder s.hostMove.stream = .noWord ∧ stepBy decoder effect s = .fault .endOfProgram) := by
  unfold stepBy
  cases h : decoder s.hostMove.stream with
  | ok i rest => exact .inl ⟨i, rest, rfl, rfl⟩
  | undecodable word => exact .inr (.inl ⟨word, rfl, rfl⟩)
  | immediateMissing => exact .inr (.inr (.inl ⟨rfl, rfl⟩))
  | noWord => exact .inr (.inr (.inr ⟨rfl, rfl⟩))

end Sys2Proof.Machine
end

