-- ==== Sys2Proof/Laws/Configured.lean ====
section
/-! SUPPORT. Reading a word under any assignment of codes. -/

namespace Sys2Proof

/-! ## The enumerations are whole -/

@[simp] theorem SingleOp.mem_all (x : SingleOp) : x ∈ SingleOp.all := by cases x <;> simp [SingleOp.all]
@[simp] theorem NrDest.mem_all (x : NrDest) : x ∈ NrDest.all := by cases x <;> simp [NrDest.all]
@[simp] theorem NrShortDest.mem_all (x : NrShortDest) : x ∈ NrShortDest.all := by cases x <;> simp [NrShortDest.all]
@[simp] theorem TwoOp.mem_all (x : TwoOp) : x ∈ TwoOp.all := by cases x <;> simp [TwoOp.all]
@[simp] theorem ShiftOp.mem_all (x : ShiftOp) : x ∈ ShiftOp.all := by cases x <;> simp [ShiftOp.all]
@[simp] theorem ShftrForm.mem_all (x : ShftrForm) : x ∈ ShftrForm.all := by cases x <;> simp [ShftrForm.all]
@[simp] theorem ShftnrSource.mem_all (x : ShftnrSource) : x ∈ ShftnrSource.all := by cases x <;> simp [ShftnrSource.all]
@[simp] theorem Bor1Op.mem_all (x : Bor1Op) : x ∈ Bor1Op.all := by cases x <;> simp [Bor1Op.all]
@[simp] theorem Bor2Op.mem_all (x : Bor2Op) : x ∈ Bor2Op.all := by cases x <;> simp [Bor2Op.all]
@[simp] theorem BonrOp.mem_all (x : BonrOp) : x ∈ BonrOp.all := by cases x <;> simp [BonrOp.all]
@[simp] theorem Rotr1Form.mem_all (x : Rotr1Form) : x ∈ Rotr1Form.all := by cases x <;> simp [Rotr1Form.all]
@[simp] theorem Rotr2Form.mem_all (x : Rotr2Form) : x ∈ Rotr2Form.all := by cases x <;> simp [Rotr2Form.all]
@[simp] theorem RotnrForm.mem_all (x : RotnrForm) : x ∈ RotnrForm.all := by cases x <;> simp [RotnrForm.all]
@[simp] theorem Prt1Dest.mem_all (x : Prt1Dest) : x ∈ Prt1Dest.all := by cases x <;> simp [Prt1Dest.all]
@[simp] theorem Prt1Source.mem_all (x : Prt1Source) : x ∈ Prt1Source.all := by cases x <;> simp [Prt1Source.all]
@[simp] theorem Prt2Dest.mem_all (x : Prt2Dest) : x ∈ Prt2Dest.all := by cases x <;> simp [Prt2Dest.all]
@[simp] theorem Prt3Source.mem_all (x : Prt3Source) : x ∈ Prt3Source.all := by cases x <;> simp [Prt3Source.all]
@[simp] theorem PrtnrSource.mem_all (x : PrtnrSource) : x ∈ PrtnrSource.all := by cases x <;> simp [PrtnrSource.all]
@[simp] theorem SetOp.mem_all (x : SetOp) : x ∈ SetOp.all := by cases x <;> simp [SetOp.all]
@[simp] theorem RstOp.mem_all (x : RstOp) : x ∈ RstOp.all := by cases x <;> simp [RstOp.all]
@[simp] theorem TestCond.mem_all (x : TestCond) : x ∈ TestCond.all := by cases x <;> simp [TestCond.all]
@[simp] theorem SorForm.mem_all {imm : Word} {x : SorForm} :
    x ∈ SorForm.all imm ↔ x.immediate.getD imm = imm := by
  cases x <;> simp [SorForm.all, SorForm.immediate]
@[simp] theorem SonrSource.mem_all {imm : Word} {x : SonrSource} :
    x ∈ SonrSource.all imm ↔ x.immediate.getD imm = imm := by
  cases x <;> simp [SonrSource.all, SonrSource.immediate]
@[simp] theorem Tor1Form.mem_all {imm : Word} {x : Tor1Form} :
    x ∈ Tor1Form.all imm ↔ x.immediate.getD imm = imm := by
  cases x <;> simp [Tor1Form.all, Tor1Form.immediate]
@[simp] theorem Tor2Form.mem_all {imm : Word} {x : Tor2Form} :
    x ∈ Tor2Form.all imm ↔ x.immediate.getD imm = imm := by
  cases x <;> simp [Tor2Form.all, Tor2Form.immediate]
@[simp] theorem TonrForm.mem_all {imm : Word} {x : TonrForm} :
    x ∈ TonrForm.all imm ↔ x.immediate.getD imm = imm := by
  cases x <;> simp [TonrForm.all, TonrForm.immediate]
@[simp] theorem RotcForm.mem_all {imm : Word} {x : RotcForm} :
    x ∈ RotcForm.all imm ↔ x.immediate.getD imm = imm := by
  cases x <;> simp [RotcForm.all, RotcForm.immediate]
@[simp] theorem RotmForm.mem_all {imm : Word} {x : RotmForm} :
    x ∈ RotmForm.all imm ↔ x.immediate.getD imm = imm := by
  cases x <;> simp [RotmForm.all, RotmForm.immediate]
@[simp] theorem PrtMask.mem_all {imm : Word} {x : PrtMask} :
    x ∈ PrtMask.all imm ↔ x.immediate.getD imm = imm := by
  cases x <;> simp [PrtMask.all, PrtMask.immediate]

/-- The enumerated formats are those that take their W, n and a from the fields, and `imm` as their
immediate word if any. -/
theorem mem_all_of_fieldsWith {c : Codes} {i : Fields} {imm : Word} {f : Format}
    (hf : f.fieldsWith c = i) : f ∈ Format.all i imm ↔ f.immediate.getD imm = imm := by
  subst hf
  unfold Format.all
  simp only [List.mem_flatten, List.mem_cons, List.not_mem_nil, or_false, exists_eq_or_imp,
    exists_eq_left, List.mem_flatMap, List.mem_map]
  cases f <;> simp [Format.fieldsWith, Format.immediate]

/-- The readings of a word are the formats that have its fields, with the next word as their
immediate word if they take one. -/
theorem mem_readings {c : Codes} {word imm : Word} {f : Format} :
    f ∈ readings c word imm ↔ f.fieldsWith c = fieldsOf word ∧ f.immediate.getD imm = imm := by
  simp only [readings, List.mem_filter, decide_eq_true_eq]
  exact ⟨fun h => ⟨h.2, (mem_all_of_fieldsWith h.2).1 h.1⟩,
    fun h => ⟨(mem_all_of_fieldsWith h.1).2 h.2, h.1⟩⟩

/-- A word has a format exactly when it has one reading. -/
theorem formatWith_eq_some {c : Codes} {word imm : Word} {f : Format} :
    formatWith c word imm = some f ↔
      f ∈ readings c word imm ∧ ∀ g ∈ readings c word imm, g = f := by
  unfold formatWith
  cases readings c word imm with
  | nil => simp
  | cons g rest =>
    simp only [List.all_eq_true, decide_eq_true_eq, List.mem_cons, forall_eq_or_imp]
    constructor
    · intro h
      split at h
      · obtain rfl := Option.some.inj h
        exact ⟨.inl rfl, rfl, ‹_›⟩
      · cases h
    · rintro ⟨-, rfl, h⟩
      rw [if_pos h]

end Sys2Proof
end

