-- ==== Sys2Proof/Laws/Delivers.lean ====
section
/-! SUPPORT. The common end of an instruction, in the terms the statements use. -/

namespace Sys2Proof.Machine

open Sys2Proof.Claims

/-- A load of РгС with the parameters of the machine. -/
theorem loadSt_parameters (w : Width) (r : BitVec w.bits) (st : Status) :
    loadSt parameters w r st = loaded w r st := by
  cases w
  · rfl
  · simp [loadSt, parameters, loaded, Status.ofByte]

/-- РгС after an instruction, with the parameters of the machine. -/
theorem statusAfter_parameters (w : Width) (dst : Dst) (res : AluResult w.bits) (st : Status) :
    statusAfter parameters w dst res st =
      if dst = .st ∨ dst = .accSt then loaded w res.value st else res.st := by
  cases dst <;> simp [statusAfter, Dst.loadsStatus, loadSt_parameters]

/-- What `complete` does, in one piece. -/
theorem complete_delivers (s : State) (w : Width) (dst : Dst) (res : AluResult w.bits)
    (high : BitVec 8) (words : Nat) (h : dst ≠ .d) :
    Delivers w dst res.value res.st words s (s.complete parameters w dst res high words) := by
  refine ⟨?_, ?_, ?_, ?_, ?_, ?_, ?_, ?_⟩
  · simp
  · exact complete_acc ..
  · intro b; exact complete_reg ..
  · rw [complete_d, if_neg h]
  · rw [complete_st, statusAfter_parameters]
  all_goals simp

/-- An instruction that delivers a result completes with it. -/
theorem deliver_gives {i : Instr} {w : Width} {dst : Dst} {r : BitVec w.bits} {flags : Status}
    {words : Nat} {s : State} (res : AluResult w.bits)
    (hi : exec i s = s.deliver parameters w dst res words) (hd : dst ≠ .d)
    (hr : res.value = r) (hf : res.st = flags) : Gives i w dst r flags words s := by
  subst hr; subst hf
  exact ⟨_, hi, complete_delivers _ _ _ _ _ _ hd⟩

/-- A result that sets the flags by `logic_flags`. -/
theorem logicFlags_eq {k : Nat} (r : BitVec k) (st : Status) :
    logicFlags r st = flagsOf r false false st := by
  simp [logicFlags, setNZ, flagsOf, BitVec.msb_eq_getLsbD_last]

/-- A result that sets the flags by `arith_flags`. -/
theorem arithFlags_eq {k : Nat} (r : BitVec k) (c v : Bool) (st : Status) :
    arithFlags r c v st = flagsOf r c v st := by
  simp [arithFlags, setNZ, flagsOf, BitVec.msb_eq_getLsbD_last]

end Sys2Proof.Machine
end

