-- ==== Sys2Proof/Laws/PerInstr.lean ====
section
/-! SUPPORT. Statements about every instruction, made per constructor. -/

namespace Sys2Proof.Laws

/-- No two rows of the opcode table are confused: an instruction's format and fields give the instruction back. -/
def FormatRoundTrip.Statement (i : Instr) : Prop := i.format.instr = i

theorem FormatRoundTrip.sorMoveSora (w : Width) (a : Reg) :
    FormatRoundTrip.Statement (.sorMoveSora w a) := rfl
theorem FormatRoundTrip.sorMoveSory (w : Width) (a : Reg) :
    FormatRoundTrip.Statement (.sorMoveSory w a) := rfl
theorem FormatRoundTrip.sorMoveSors (w : Width) (a : Reg) :
    FormatRoundTrip.Statement (.sorMoveSors w a) := rfl
theorem FormatRoundTrip.sorMoveSoar (w : Width) (a : Reg) :
    FormatRoundTrip.Statement (.sorMoveSoar w a) := rfl
theorem FormatRoundTrip.sorMoveSodr (w : Width) (a : Reg) :
    FormatRoundTrip.Statement (.sorMoveSodr w a) := rfl
theorem FormatRoundTrip.sorMoveSoir (w : Width) (a : Reg) (imm : Word) :
    FormatRoundTrip.Statement (.sorMoveSoir w a imm) := rfl
theorem FormatRoundTrip.sorMoveSozr (w : Width) (a : Reg) :
    FormatRoundTrip.Statement (.sorMoveSozr w a) := rfl
theorem FormatRoundTrip.sorMoveSozer (w : Width) (a : Reg) :
    FormatRoundTrip.Statement (.sorMoveSozer w a) := rfl
theorem FormatRoundTrip.sorMoveSoser (w : Width) (a : Reg) :
    FormatRoundTrip.Statement (.sorMoveSoser w a) := rfl
theorem FormatRoundTrip.sorMoveSorr (w : Width) (a : Reg) :
    FormatRoundTrip.Statement (.sorMoveSorr w a) := rfl
theorem FormatRoundTrip.sorCompSora (w : Width) (a : Reg) :
    FormatRoundTrip.Statement (.sorCompSora w a) := rfl
theorem FormatRoundTrip.sorCompSory (w : Width) (a : Reg) :
    FormatRoundTrip.Statement (.sorCompSory w a) := rfl
theorem FormatRoundTrip.sorCompSors (w : Width) (a : Reg) :
    FormatRoundTrip.Statement (.sorCompSors w a) := rfl
theorem FormatRoundTrip.sorCompSoar (w : Width) (a : Reg) :
    FormatRoundTrip.Statement (.sorCompSoar w a) := rfl
theorem FormatRoundTrip.sorCompSodr (w : Width) (a : Reg) :
    FormatRoundTrip.Statement (.sorCompSodr w a) := rfl
theorem FormatRoundTrip.sorCompSoir (w : Width) (a : Reg) (imm : Word) :
    FormatRoundTrip.Statement (.sorCompSoir w a imm) := rfl
theorem FormatRoundTrip.sorCompSozr (w : Width) (a : Reg) :
    FormatRoundTrip.Statement (.sorCompSozr w a) := rfl
theorem FormatRoundTrip.sorCompSozer (w : Width) (a : Reg) :
    FormatRoundTrip.Statement (.sorCompSozer w a) := rfl
theorem FormatRoundTrip.sorCompSoser (w : Width) (a : Reg) :
    FormatRoundTrip.Statement (.sorCompSoser w a) := rfl
theorem FormatRoundTrip.sorCompSorr (w : Width) (a : Reg) :
    FormatRoundTrip.Statement (.sorCompSorr w a) := rfl
theorem FormatRoundTrip.sorIncSora (w : Width) (a : Reg) :
    FormatRoundTrip.Statement (.sorIncSora w a) := rfl
theorem FormatRoundTrip.sorIncSory (w : Width) (a : Reg) :
    FormatRoundTrip.Statement (.sorIncSory w a) := rfl
theorem FormatRoundTrip.sorIncSors (w : Width) (a : Reg) :
    FormatRoundTrip.Statement (.sorIncSors w a) := rfl
theorem FormatRoundTrip.sorIncSoar (w : Width) (a : Reg) :
    FormatRoundTrip.Statement (.sorIncSoar w a) := rfl
theorem FormatRoundTrip.sorIncSodr (w : Width) (a : Reg) :
    FormatRoundTrip.Statement (.sorIncSodr w a) := rfl
theorem FormatRoundTrip.sorIncSoir (w : Width) (a : Reg) (imm : Word) :
    FormatRoundTrip.Statement (.sorIncSoir w a imm) := rfl
theorem FormatRoundTrip.sorIncSozr (w : Width) (a : Reg) :
    FormatRoundTrip.Statement (.sorIncSozr w a) := rfl
theorem FormatRoundTrip.sorIncSozer (w : Width) (a : Reg) :
    FormatRoundTrip.Statement (.sorIncSozer w a) := rfl
theorem FormatRoundTrip.sorIncSoser (w : Width) (a : Reg) :
    FormatRoundTrip.Statement (.sorIncSoser w a) := rfl
theorem FormatRoundTrip.sorIncSorr (w : Width) (a : Reg) :
    FormatRoundTrip.Statement (.sorIncSorr w a) := rfl
theorem FormatRoundTrip.sorNegSora (w : Width) (a : Reg) :
    FormatRoundTrip.Statement (.sorNegSora w a) := rfl
theorem FormatRoundTrip.sorNegSory (w : Width) (a : Reg) :
    FormatRoundTrip.Statement (.sorNegSory w a) := rfl
theorem FormatRoundTrip.sorNegSors (w : Width) (a : Reg) :
    FormatRoundTrip.Statement (.sorNegSors w a) := rfl
theorem FormatRoundTrip.sorNegSoar (w : Width) (a : Reg) :
    FormatRoundTrip.Statement (.sorNegSoar w a) := rfl
theorem FormatRoundTrip.sorNegSodr (w : Width) (a : Reg) :
    FormatRoundTrip.Statement (.sorNegSodr w a) := rfl
theorem FormatRoundTrip.sorNegSoir (w : Width) (a : Reg) (imm : Word) :
    FormatRoundTrip.Statement (.sorNegSoir w a imm) := rfl
theorem FormatRoundTrip.sorNegSozr (w : Width) (a : Reg) :
    FormatRoundTrip.Statement (.sorNegSozr w a) := rfl
theorem FormatRoundTrip.sorNegSozer (w : Width) (a : Reg) :
    FormatRoundTrip.Statement (.sorNegSozer w a) := rfl
theorem FormatRoundTrip.sorNegSoser (w : Width) (a : Reg) :
    FormatRoundTrip.Statement (.sorNegSoser w a) := rfl
theorem FormatRoundTrip.sorNegSorr (w : Width) (a : Reg) :
    FormatRoundTrip.Statement (.sorNegSorr w a) := rfl
theorem FormatRoundTrip.sonrMoveSoaNry (w : Width) :
    FormatRoundTrip.Statement (.sonrMoveSoaNry w) := rfl
theorem FormatRoundTrip.sonrMoveSoaNra (w : Width) :
    FormatRoundTrip.Statement (.sonrMoveSoaNra w) := rfl
theorem FormatRoundTrip.sonrMoveSoaNrs (w : Width) :
    FormatRoundTrip.Statement (.sonrMoveSoaNrs w) := rfl
theorem FormatRoundTrip.sonrMoveSoaNras (w : Width) :
    FormatRoundTrip.Statement (.sonrMoveSoaNras w) := rfl
theorem FormatRoundTrip.sonrMoveSodNry (w : Width) :
    FormatRoundTrip.Statement (.sonrMoveSodNry w) := rfl
theorem FormatRoundTrip.sonrMoveSodNra (w : Width) :
    FormatRoundTrip.Statement (.sonrMoveSodNra w) := rfl
theorem FormatRoundTrip.sonrMoveSodNrs (w : Width) :
    FormatRoundTrip.Statement (.sonrMoveSodNrs w) := rfl
theorem FormatRoundTrip.sonrMoveSodNras (w : Width) :
    FormatRoundTrip.Statement (.sonrMoveSodNras w) := rfl
theorem FormatRoundTrip.sonrMoveSoiNry (w : Width) (imm : Word) :
    FormatRoundTrip.Statement (.sonrMoveSoiNry w imm) := rfl
theorem FormatRoundTrip.sonrMoveSoiNra (w : Width) (imm : Word) :
    FormatRoundTrip.Statement (.sonrMoveSoiNra w imm) := rfl
theorem FormatRoundTrip.sonrMoveSoiNrs (w : Width) (imm : Word) :
    FormatRoundTrip.Statement (.sonrMoveSoiNrs w imm) := rfl
theorem FormatRoundTrip.sonrMoveSoiNras (w : Width) (imm : Word) :
    FormatRoundTrip.Statement (.sonrMoveSoiNras w imm) := rfl
theorem FormatRoundTrip.sonrMoveSozNry (w : Width) :
    FormatRoundTrip.Statement (.sonrMoveSozNry w) := rfl
theorem FormatRoundTrip.sonrMoveSozNra (w : Width) :
    FormatRoundTrip.Statement (.sonrMoveSozNra w) := rfl
theorem FormatRoundTrip.sonrMoveSozNrs (w : Width) :
    FormatRoundTrip.Statement (.sonrMoveSozNrs w) := rfl
theorem FormatRoundTrip.sonrMoveSozNras (w : Width) :
    FormatRoundTrip.Statement (.sonrMoveSozNras w) := rfl
theorem FormatRoundTrip.sonrMoveSozeNry (w : Width) :
    FormatRoundTrip.Statement (.sonrMoveSozeNry w) := rfl
theorem FormatRoundTrip.sonrMoveSozeNra (w : Width) :
    FormatRoundTrip.Statement (.sonrMoveSozeNra w) := rfl
theorem FormatRoundTrip.sonrMoveSozeNrs (w : Width) :
    FormatRoundTrip.Statement (.sonrMoveSozeNrs w) := rfl
theorem FormatRoundTrip.sonrMoveSozeNras (w : Width) :
    FormatRoundTrip.Statement (.sonrMoveSozeNras w) := rfl
theorem FormatRoundTrip.sonrMoveSoseNry (w : Width) :
    FormatRoundTrip.Statement (.sonrMoveSoseNry w) := rfl
theorem FormatRoundTrip.sonrMoveSoseNra (w : Width) :
    FormatRoundTrip.Statement (.sonrMoveSoseNra w) := rfl
theorem FormatRoundTrip.sonrMoveSoseNrs (w : Width) :
    FormatRoundTrip.Statement (.sonrMoveSoseNrs w) := rfl
theorem FormatRoundTrip.sonrMoveSoseNras (w : Width) :
    FormatRoundTrip.Statement (.sonrMoveSoseNras w) := rfl
theorem FormatRoundTrip.sonrCompSoaNry (w : Width) :
    FormatRoundTrip.Statement (.sonrCompSoaNry w) := rfl
theorem FormatRoundTrip.sonrCompSoaNra (w : Width) :
    FormatRoundTrip.Statement (.sonrCompSoaNra w) := rfl
theorem FormatRoundTrip.sonrCompSoaNrs (w : Width) :
    FormatRoundTrip.Statement (.sonrCompSoaNrs w) := rfl
theorem FormatRoundTrip.sonrCompSoaNras (w : Width) :
    FormatRoundTrip.Statement (.sonrCompSoaNras w) := rfl
theorem FormatRoundTrip.sonrCompSodNry (w : Width) :
    FormatRoundTrip.Statement (.sonrCompSodNry w) := rfl
theorem FormatRoundTrip.sonrCompSodNra (w : Width) :
    FormatRoundTrip.Statement (.sonrCompSodNra w) := rfl
theorem FormatRoundTrip.sonrCompSodNrs (w : Width) :
    FormatRoundTrip.Statement (.sonrCompSodNrs w) := rfl
theorem FormatRoundTrip.sonrCompSodNras (w : Width) :
    FormatRoundTrip.Statement (.sonrCompSodNras w) := rfl
theorem FormatRoundTrip.sonrCompSoiNry (w : Width) (imm : Word) :
    FormatRoundTrip.Statement (.sonrCompSoiNry w imm) := rfl
theorem FormatRoundTrip.sonrCompSoiNra (w : Width) (imm : Word) :
    FormatRoundTrip.Statement (.sonrCompSoiNra w imm) := rfl
theorem FormatRoundTrip.sonrCompSoiNrs (w : Width) (imm : Word) :
    FormatRoundTrip.Statement (.sonrCompSoiNrs w imm) := rfl
theorem FormatRoundTrip.sonrCompSoiNras (w : Width) (imm : Word) :
    FormatRoundTrip.Statement (.sonrCompSoiNras w imm) := rfl
theorem FormatRoundTrip.sonrCompSozNry (w : Width) :
    FormatRoundTrip.Statement (.sonrCompSozNry w) := rfl
theorem FormatRoundTrip.sonrCompSozNra (w : Width) :
    FormatRoundTrip.Statement (.sonrCompSozNra w) := rfl
theorem FormatRoundTrip.sonrCompSozNrs (w : Width) :
    FormatRoundTrip.Statement (.sonrCompSozNrs w) := rfl
theorem FormatRoundTrip.sonrCompSozNras (w : Width) :
    FormatRoundTrip.Statement (.sonrCompSozNras w) := rfl
theorem FormatRoundTrip.sonrCompSozeNry (w : Width) :
    FormatRoundTrip.Statement (.sonrCompSozeNry w) := rfl
theorem FormatRoundTrip.sonrCompSozeNra (w : Width) :
    FormatRoundTrip.Statement (.sonrCompSozeNra w) := rfl
theorem FormatRoundTrip.sonrCompSozeNrs (w : Width) :
    FormatRoundTrip.Statement (.sonrCompSozeNrs w) := rfl
theorem FormatRoundTrip.sonrCompSozeNras (w : Width) :
    FormatRoundTrip.Statement (.sonrCompSozeNras w) := rfl
theorem FormatRoundTrip.sonrCompSoseNry (w : Width) :
    FormatRoundTrip.Statement (.sonrCompSoseNry w) := rfl
theorem FormatRoundTrip.sonrCompSoseNra (w : Width) :
    FormatRoundTrip.Statement (.sonrCompSoseNra w) := rfl
theorem FormatRoundTrip.sonrCompSoseNrs (w : Width) :
    FormatRoundTrip.Statement (.sonrCompSoseNrs w) := rfl
theorem FormatRoundTrip.sonrCompSoseNras (w : Width) :
    FormatRoundTrip.Statement (.sonrCompSoseNras w) := rfl
theorem FormatRoundTrip.sonrIncSoaNry (w : Width) :
    FormatRoundTrip.Statement (.sonrIncSoaNry w) := rfl
theorem FormatRoundTrip.sonrIncSoaNra (w : Width) :
    FormatRoundTrip.Statement (.sonrIncSoaNra w) := rfl
theorem FormatRoundTrip.sonrIncSoaNrs (w : Width) :
    FormatRoundTrip.Statement (.sonrIncSoaNrs w) := rfl
theorem FormatRoundTrip.sonrIncSoaNras (w : Width) :
    FormatRoundTrip.Statement (.sonrIncSoaNras w) := rfl
theorem FormatRoundTrip.sonrIncSodNry (w : Width) :
    FormatRoundTrip.Statement (.sonrIncSodNry w) := rfl
theorem FormatRoundTrip.sonrIncSodNra (w : Width) :
    FormatRoundTrip.Statement (.sonrIncSodNra w) := rfl
theorem FormatRoundTrip.sonrIncSodNrs (w : Width) :
    FormatRoundTrip.Statement (.sonrIncSodNrs w) := rfl
theorem FormatRoundTrip.sonrIncSodNras (w : Width) :
    FormatRoundTrip.Statement (.sonrIncSodNras w) := rfl
theorem FormatRoundTrip.sonrIncSoiNry (w : Width) (imm : Word) :
    FormatRoundTrip.Statement (.sonrIncSoiNry w imm) := rfl
theorem FormatRoundTrip.sonrIncSoiNra (w : Width) (imm : Word) :
    FormatRoundTrip.Statement (.sonrIncSoiNra w imm) := rfl
theorem FormatRoundTrip.sonrIncSoiNrs (w : Width) (imm : Word) :
    FormatRoundTrip.Statement (.sonrIncSoiNrs w imm) := rfl
theorem FormatRoundTrip.sonrIncSoiNras (w : Width) (imm : Word) :
    FormatRoundTrip.Statement (.sonrIncSoiNras w imm) := rfl
theorem FormatRoundTrip.sonrIncSozNry (w : Width) :
    FormatRoundTrip.Statement (.sonrIncSozNry w) := rfl
theorem FormatRoundTrip.sonrIncSozNra (w : Width) :
    FormatRoundTrip.Statement (.sonrIncSozNra w) := rfl
theorem FormatRoundTrip.sonrIncSozNrs (w : Width) :
    FormatRoundTrip.Statement (.sonrIncSozNrs w) := rfl
theorem FormatRoundTrip.sonrIncSozNras (w : Width) :
    FormatRoundTrip.Statement (.sonrIncSozNras w) := rfl
theorem FormatRoundTrip.sonrIncSozeNry (w : Width) :
    FormatRoundTrip.Statement (.sonrIncSozeNry w) := rfl
theorem FormatRoundTrip.sonrIncSozeNra (w : Width) :
    FormatRoundTrip.Statement (.sonrIncSozeNra w) := rfl
theorem FormatRoundTrip.sonrIncSozeNrs (w : Width) :
    FormatRoundTrip.Statement (.sonrIncSozeNrs w) := rfl
theorem FormatRoundTrip.sonrIncSozeNras (w : Width) :
    FormatRoundTrip.Statement (.sonrIncSozeNras w) := rfl
theorem FormatRoundTrip.sonrIncSoseNry (w : Width) :
    FormatRoundTrip.Statement (.sonrIncSoseNry w) := rfl
theorem FormatRoundTrip.sonrIncSoseNra (w : Width) :
    FormatRoundTrip.Statement (.sonrIncSoseNra w) := rfl
theorem FormatRoundTrip.sonrIncSoseNrs (w : Width) :
    FormatRoundTrip.Statement (.sonrIncSoseNrs w) := rfl
theorem FormatRoundTrip.sonrIncSoseNras (w : Width) :
    FormatRoundTrip.Statement (.sonrIncSoseNras w) := rfl
theorem FormatRoundTrip.sonrNegSoaNry (w : Width) :
    FormatRoundTrip.Statement (.sonrNegSoaNry w) := rfl
theorem FormatRoundTrip.sonrNegSoaNra (w : Width) :
    FormatRoundTrip.Statement (.sonrNegSoaNra w) := rfl
theorem FormatRoundTrip.sonrNegSoaNrs (w : Width) :
    FormatRoundTrip.Statement (.sonrNegSoaNrs w) := rfl
theorem FormatRoundTrip.sonrNegSoaNras (w : Width) :
    FormatRoundTrip.Statement (.sonrNegSoaNras w) := rfl
theorem FormatRoundTrip.sonrNegSodNry (w : Width) :
    FormatRoundTrip.Statement (.sonrNegSodNry w) := rfl
theorem FormatRoundTrip.sonrNegSodNra (w : Width) :
    FormatRoundTrip.Statement (.sonrNegSodNra w) := rfl
theorem FormatRoundTrip.sonrNegSodNrs (w : Width) :
    FormatRoundTrip.Statement (.sonrNegSodNrs w) := rfl
theorem FormatRoundTrip.sonrNegSodNras (w : Width) :
    FormatRoundTrip.Statement (.sonrNegSodNras w) := rfl
theorem FormatRoundTrip.sonrNegSoiNry (w : Width) (imm : Word) :
    FormatRoundTrip.Statement (.sonrNegSoiNry w imm) := rfl
theorem FormatRoundTrip.sonrNegSoiNra (w : Width) (imm : Word) :
    FormatRoundTrip.Statement (.sonrNegSoiNra w imm) := rfl
theorem FormatRoundTrip.sonrNegSoiNrs (w : Width) (imm : Word) :
    FormatRoundTrip.Statement (.sonrNegSoiNrs w imm) := rfl
theorem FormatRoundTrip.sonrNegSoiNras (w : Width) (imm : Word) :
    FormatRoundTrip.Statement (.sonrNegSoiNras w imm) := rfl
theorem FormatRoundTrip.sonrNegSozNry (w : Width) :
    FormatRoundTrip.Statement (.sonrNegSozNry w) := rfl
theorem FormatRoundTrip.sonrNegSozNra (w : Width) :
    FormatRoundTrip.Statement (.sonrNegSozNra w) := rfl
theorem FormatRoundTrip.sonrNegSozNrs (w : Width) :
    FormatRoundTrip.Statement (.sonrNegSozNrs w) := rfl
theorem FormatRoundTrip.sonrNegSozNras (w : Width) :
    FormatRoundTrip.Statement (.sonrNegSozNras w) := rfl
theorem FormatRoundTrip.sonrNegSozeNry (w : Width) :
    FormatRoundTrip.Statement (.sonrNegSozeNry w) := rfl
theorem FormatRoundTrip.sonrNegSozeNra (w : Width) :
    FormatRoundTrip.Statement (.sonrNegSozeNra w) := rfl
theorem FormatRoundTrip.sonrNegSozeNrs (w : Width) :
    FormatRoundTrip.Statement (.sonrNegSozeNrs w) := rfl
theorem FormatRoundTrip.sonrNegSozeNras (w : Width) :
    FormatRoundTrip.Statement (.sonrNegSozeNras w) := rfl
theorem FormatRoundTrip.sonrNegSoseNry (w : Width) :
    FormatRoundTrip.Statement (.sonrNegSoseNry w) := rfl
theorem FormatRoundTrip.sonrNegSoseNra (w : Width) :
    FormatRoundTrip.Statement (.sonrNegSoseNra w) := rfl
theorem FormatRoundTrip.sonrNegSoseNrs (w : Width) :
    FormatRoundTrip.Statement (.sonrNegSoseNrs w) := rfl
theorem FormatRoundTrip.sonrNegSoseNras (w : Width) :
    FormatRoundTrip.Statement (.sonrNegSoseNras w) := rfl
theorem FormatRoundTrip.tor1ToraaSubr (w : Width) (a : Reg) :
    FormatRoundTrip.Statement (.tor1ToraaSubr w a) := rfl
theorem FormatRoundTrip.tor1ToriaSubr (w : Width) (a : Reg) (imm : Word) :
    FormatRoundTrip.Statement (.tor1ToriaSubr w a imm) := rfl
theorem FormatRoundTrip.tor1TodraSubr (w : Width) (a : Reg) :
    FormatRoundTrip.Statement (.tor1TodraSubr w a) := rfl
theorem FormatRoundTrip.tor1ToraySubr (w : Width) (a : Reg) :
    FormatRoundTrip.Statement (.tor1ToraySubr w a) := rfl
theorem FormatRoundTrip.tor1ToriySubr (w : Width) (a : Reg) (imm : Word) :
    FormatRoundTrip.Statement (.tor1ToriySubr w a imm) := rfl
theorem FormatRoundTrip.tor1TodrySubr (w : Width) (a : Reg) :
    FormatRoundTrip.Statement (.tor1TodrySubr w a) := rfl
theorem FormatRoundTrip.tor1TorarSubr (w : Width) (a : Reg) :
    FormatRoundTrip.Statement (.tor1TorarSubr w a) := rfl
theorem FormatRoundTrip.tor1TorirSubr (w : Width) (a : Reg) (imm : Word) :
    FormatRoundTrip.Statement (.tor1TorirSubr w a imm) := rfl
theorem FormatRoundTrip.tor1TodrrSubr (w : Width) (a : Reg) :
    FormatRoundTrip.Statement (.tor1TodrrSubr w a) := rfl
theorem FormatRoundTrip.tor1ToraaSubrc (w : Width) (a : Reg) :
    FormatRoundTrip.Statement (.tor1ToraaSubrc w a) := rfl
theorem FormatRoundTrip.tor1ToriaSubrc (w : Width) (a : Reg) (imm : Word) :
    FormatRoundTrip.Statement (.tor1ToriaSubrc w a imm) := rfl
theorem FormatRoundTrip.tor1TodraSubrc (w : Width) (a : Reg) :
    FormatRoundTrip.Statement (.tor1TodraSubrc w a) := rfl
theorem FormatRoundTrip.tor1ToraySubrc (w : Width) (a : Reg) :
    FormatRoundTrip.Statement (.tor1ToraySubrc w a) := rfl
theorem FormatRoundTrip.tor1ToriySubrc (w : Width) (a : Reg) (imm : Word) :
    FormatRoundTrip.Statement (.tor1ToriySubrc w a imm) := rfl
theorem FormatRoundTrip.tor1TodrySubrc (w : Width) (a : Reg) :
    FormatRoundTrip.Statement (.tor1TodrySubrc w a) := rfl
theorem FormatRoundTrip.tor1TorarSubrc (w : Width) (a : Reg) :
    FormatRoundTrip.Statement (.tor1TorarSubrc w a) := rfl
theorem FormatRoundTrip.tor1TorirSubrc (w : Width) (a : Reg) (imm : Word) :
    FormatRoundTrip.Statement (.tor1TorirSubrc w a imm) := rfl
theorem FormatRoundTrip.tor1TodrrSubrc (w : Width) (a : Reg) :
    FormatRoundTrip.Statement (.tor1TodrrSubrc w a) := rfl
theorem FormatRoundTrip.tor1ToraaSubs (w : Width) (a : Reg) :
    FormatRoundTrip.Statement (.tor1ToraaSubs w a) := rfl
theorem FormatRoundTrip.tor1ToriaSubs (w : Width) (a : Reg) (imm : Word) :
    FormatRoundTrip.Statement (.tor1ToriaSubs w a imm) := rfl
theorem FormatRoundTrip.tor1TodraSubs (w : Width) (a : Reg) :
    FormatRoundTrip.Statement (.tor1TodraSubs w a) := rfl
theorem FormatRoundTrip.tor1ToraySubs (w : Width) (a : Reg) :
    FormatRoundTrip.Statement (.tor1ToraySubs w a) := rfl
theorem FormatRoundTrip.tor1ToriySubs (w : Width) (a : Reg) (imm : Word) :
    FormatRoundTrip.Statement (.tor1ToriySubs w a imm) := rfl
theorem FormatRoundTrip.tor1TodrySubs (w : Width) (a : Reg) :
    FormatRoundTrip.Statement (.tor1TodrySubs w a) := rfl
theorem FormatRoundTrip.tor1TorarSubs (w : Width) (a : Reg) :
    FormatRoundTrip.Statement (.tor1TorarSubs w a) := rfl
theorem FormatRoundTrip.tor1TorirSubs (w : Width) (a : Reg) (imm : Word) :
    FormatRoundTrip.Statement (.tor1TorirSubs w a imm) := rfl
theorem FormatRoundTrip.tor1TodrrSubs (w : Width) (a : Reg) :
    FormatRoundTrip.Statement (.tor1TodrrSubs w a) := rfl
theorem FormatRoundTrip.tor1ToraaSubsc (w : Width) (a : Reg) :
    FormatRoundTrip.Statement (.tor1ToraaSubsc w a) := rfl
theorem FormatRoundTrip.tor1ToriaSubsc (w : Width) (a : Reg) (imm : Word) :
    FormatRoundTrip.Statement (.tor1ToriaSubsc w a imm) := rfl
theorem FormatRoundTrip.tor1TodraSubsc (w : Width) (a : Reg) :
    FormatRoundTrip.Statement (.tor1TodraSubsc w a) := rfl
theorem FormatRoundTrip.tor1ToraySubsc (w : Width) (a : Reg) :
    FormatRoundTrip.Statement (.tor1ToraySubsc w a) := rfl
theorem FormatRoundTrip.tor1ToriySubsc (w : Width) (a : Reg) (imm : Word) :
    FormatRoundTrip.Statement (.tor1ToriySubsc w a imm) := rfl
theorem FormatRoundTrip.tor1TodrySubsc (w : Width) (a : Reg) :
    FormatRoundTrip.Statement (.tor1TodrySubsc w a) := rfl
theorem FormatRoundTrip.tor1TorarSubsc (w : Width) (a : Reg) :
    FormatRoundTrip.Statement (.tor1TorarSubsc w a) := rfl
theorem FormatRoundTrip.tor1TorirSubsc (w : Width) (a : Reg) (imm : Word) :
    FormatRoundTrip.Statement (.tor1TorirSubsc w a imm) := rfl
theorem FormatRoundTrip.tor1TodrrSubsc (w : Width) (a : Reg) :
    FormatRoundTrip.Statement (.tor1TodrrSubsc w a) := rfl
theorem FormatRoundTrip.tor1ToraaAdd (w : Width) (a : Reg) :
    FormatRoundTrip.Statement (.tor1ToraaAdd w a) := rfl
theorem FormatRoundTrip.tor1ToriaAdd (w : Width) (a : Reg) (imm : Word) :
    FormatRoundTrip.Statement (.tor1ToriaAdd w a imm) := rfl
theorem FormatRoundTrip.tor1TodraAdd (w : Width) (a : Reg) :
    FormatRoundTrip.Statement (.tor1TodraAdd w a) := rfl
theorem FormatRoundTrip.tor1TorayAdd (w : Width) (a : Reg) :
    FormatRoundTrip.Statement (.tor1TorayAdd w a) := rfl
theorem FormatRoundTrip.tor1ToriyAdd (w : Width) (a : Reg) (imm : Word) :
    FormatRoundTrip.Statement (.tor1ToriyAdd w a imm) := rfl
theorem FormatRoundTrip.tor1TodryAdd (w : Width) (a : Reg) :
    FormatRoundTrip.Statement (.tor1TodryAdd w a) := rfl
theorem FormatRoundTrip.tor1TorarAdd (w : Width) (a : Reg) :
    FormatRoundTrip.Statement (.tor1TorarAdd w a) := rfl
theorem FormatRoundTrip.tor1TorirAdd (w : Width) (a : Reg) (imm : Word) :
    FormatRoundTrip.Statement (.tor1TorirAdd w a imm) := rfl
theorem FormatRoundTrip.tor1TodrrAdd (w : Width) (a : Reg) :
    FormatRoundTrip.Statement (.tor1TodrrAdd w a) := rfl
theorem FormatRoundTrip.tor1ToraaAddc (w : Width) (a : Reg) :
    FormatRoundTrip.Statement (.tor1ToraaAddc w a) := rfl
theorem FormatRoundTrip.tor1ToriaAddc (w : Width) (a : Reg) (imm : Word) :
    FormatRoundTrip.Statement (.tor1ToriaAddc w a imm) := rfl
theorem FormatRoundTrip.tor1TodraAddc (w : Width) (a : Reg) :
    FormatRoundTrip.Statement (.tor1TodraAddc w a) := rfl
theorem FormatRoundTrip.tor1TorayAddc (w : Width) (a : Reg) :
    FormatRoundTrip.Statement (.tor1TorayAddc w a) := rfl
theorem FormatRoundTrip.tor1ToriyAddc (w : Width) (a : Reg) (imm : Word) :
    FormatRoundTrip.Statement (.tor1ToriyAddc w a imm) := rfl
theorem FormatRoundTrip.tor1TodryAddc (w : Width) (a : Reg) :
    FormatRoundTrip.Statement (.tor1TodryAddc w a) := rfl
theorem FormatRoundTrip.tor1TorarAddc (w : Width) (a : Reg) :
    FormatRoundTrip.Statement (.tor1TorarAddc w a) := rfl
theorem FormatRoundTrip.tor1TorirAddc (w : Width) (a : Reg) (imm : Word) :
    FormatRoundTrip.Statement (.tor1TorirAddc w a imm) := rfl
theorem FormatRoundTrip.tor1TodrrAddc (w : Width) (a : Reg) :
    FormatRoundTrip.Statement (.tor1TodrrAddc w a) := rfl
theorem FormatRoundTrip.tor1ToraaAnd (w : Width) (a : Reg) :
    FormatRoundTrip.Statement (.tor1ToraaAnd w a) := rfl
theorem FormatRoundTrip.tor1ToriaAnd (w : Width) (a : Reg) (imm : Word) :
    FormatRoundTrip.Statement (.tor1ToriaAnd w a imm) := rfl
theorem FormatRoundTrip.tor1TodraAnd (w : Width) (a : Reg) :
    FormatRoundTrip.Statement (.tor1TodraAnd w a) := rfl
theorem FormatRoundTrip.tor1TorayAnd (w : Width) (a : Reg) :
    FormatRoundTrip.Statement (.tor1TorayAnd w a) := rfl
theorem FormatRoundTrip.tor1ToriyAnd (w : Width) (a : Reg) (imm : Word) :
    FormatRoundTrip.Statement (.tor1ToriyAnd w a imm) := rfl
theorem FormatRoundTrip.tor1TodryAnd (w : Width) (a : Reg) :
    FormatRoundTrip.Statement (.tor1TodryAnd w a) := rfl
theorem FormatRoundTrip.tor1TorarAnd (w : Width) (a : Reg) :
    FormatRoundTrip.Statement (.tor1TorarAnd w a) := rfl
theorem FormatRoundTrip.tor1TorirAnd (w : Width) (a : Reg) (imm : Word) :
    FormatRoundTrip.Statement (.tor1TorirAnd w a imm) := rfl
theorem FormatRoundTrip.tor1TodrrAnd (w : Width) (a : Reg) :
    FormatRoundTrip.Statement (.tor1TodrrAnd w a) := rfl
theorem FormatRoundTrip.tor1ToraaNand (w : Width) (a : Reg) :
    FormatRoundTrip.Statement (.tor1ToraaNand w a) := rfl
theorem FormatRoundTrip.tor1ToriaNand (w : Width) (a : Reg) (imm : Word) :
    FormatRoundTrip.Statement (.tor1ToriaNand w a imm) := rfl
theorem FormatRoundTrip.tor1TodraNand (w : Width) (a : Reg) :
    FormatRoundTrip.Statement (.tor1TodraNand w a) := rfl
theorem FormatRoundTrip.tor1TorayNand (w : Width) (a : Reg) :
    FormatRoundTrip.Statement (.tor1TorayNand w a) := rfl
theorem FormatRoundTrip.tor1ToriyNand (w : Width) (a : Reg) (imm : Word) :
    FormatRoundTrip.Statement (.tor1ToriyNand w a imm) := rfl
theorem FormatRoundTrip.tor1TodryNand (w : Width) (a : Reg) :
    FormatRoundTrip.Statement (.tor1TodryNand w a) := rfl
theorem FormatRoundTrip.tor1TorarNand (w : Width) (a : Reg) :
    FormatRoundTrip.Statement (.tor1TorarNand w a) := rfl
theorem FormatRoundTrip.tor1TorirNand (w : Width) (a : Reg) (imm : Word) :
    FormatRoundTrip.Statement (.tor1TorirNand w a imm) := rfl
theorem FormatRoundTrip.tor1TodrrNand (w : Width) (a : Reg) :
    FormatRoundTrip.Statement (.tor1TodrrNand w a) := rfl
theorem FormatRoundTrip.tor1ToraaExor (w : Width) (a : Reg) :
    FormatRoundTrip.Statement (.tor1ToraaExor w a) := rfl
theorem FormatRoundTrip.tor1ToriaExor (w : Width) (a : Reg) (imm : Word) :
    FormatRoundTrip.Statement (.tor1ToriaExor w a imm) := rfl
theorem FormatRoundTrip.tor1TodraExor (w : Width) (a : Reg) :
    FormatRoundTrip.Statement (.tor1TodraExor w a) := rfl
theorem FormatRoundTrip.tor1TorayExor (w : Width) (a : Reg) :
    FormatRoundTrip.Statement (.tor1TorayExor w a) := rfl
theorem FormatRoundTrip.tor1ToriyExor (w : Width) (a : Reg) (imm : Word) :
    FormatRoundTrip.Statement (.tor1ToriyExor w a imm) := rfl
theorem FormatRoundTrip.tor1TodryExor (w : Width) (a : Reg) :
    FormatRoundTrip.Statement (.tor1TodryExor w a) := rfl
theorem FormatRoundTrip.tor1TorarExor (w : Width) (a : Reg) :
    FormatRoundTrip.Statement (.tor1TorarExor w a) := rfl
theorem FormatRoundTrip.tor1TorirExor (w : Width) (a : Reg) (imm : Word) :
    FormatRoundTrip.Statement (.tor1TorirExor w a imm) := rfl
theorem FormatRoundTrip.tor1TodrrExor (w : Width) (a : Reg) :
    FormatRoundTrip.Statement (.tor1TodrrExor w a) := rfl
theorem FormatRoundTrip.tor1ToraaNor (w : Width) (a : Reg) :
    FormatRoundTrip.Statement (.tor1ToraaNor w a) := rfl
theorem FormatRoundTrip.tor1ToriaNor (w : Width) (a : Reg) (imm : Word) :
    FormatRoundTrip.Statement (.tor1ToriaNor w a imm) := rfl
theorem FormatRoundTrip.tor1TodraNor (w : Width) (a : Reg) :
    FormatRoundTrip.Statement (.tor1TodraNor w a) := rfl
theorem FormatRoundTrip.tor1TorayNor (w : Width) (a : Reg) :
    FormatRoundTrip.Statement (.tor1TorayNor w a) := rfl
theorem FormatRoundTrip.tor1ToriyNor (w : Width) (a : Reg) (imm : Word) :
    FormatRoundTrip.Statement (.tor1ToriyNor w a imm) := rfl
theorem FormatRoundTrip.tor1TodryNor (w : Width) (a : Reg) :
    FormatRoundTrip.Statement (.tor1TodryNor w a) := rfl
theorem FormatRoundTrip.tor1TorarNor (w : Width) (a : Reg) :
    FormatRoundTrip.Statement (.tor1TorarNor w a) := rfl
theorem FormatRoundTrip.tor1TorirNor (w : Width) (a : Reg) (imm : Word) :
    FormatRoundTrip.Statement (.tor1TorirNor w a imm) := rfl
theorem FormatRoundTrip.tor1TodrrNor (w : Width) (a : Reg) :
    FormatRoundTrip.Statement (.tor1TodrrNor w a) := rfl
theorem FormatRoundTrip.tor1ToraaOr (w : Width) (a : Reg) :
    FormatRoundTrip.Statement (.tor1ToraaOr w a) := rfl
theorem FormatRoundTrip.tor1ToriaOr (w : Width) (a : Reg) (imm : Word) :
    FormatRoundTrip.Statement (.tor1ToriaOr w a imm) := rfl
theorem FormatRoundTrip.tor1TodraOr (w : Width) (a : Reg) :
    FormatRoundTrip.Statement (.tor1TodraOr w a) := rfl
theorem FormatRoundTrip.tor1TorayOr (w : Width) (a : Reg) :
    FormatRoundTrip.Statement (.tor1TorayOr w a) := rfl
theorem FormatRoundTrip.tor1ToriyOr (w : Width) (a : Reg) (imm : Word) :
    FormatRoundTrip.Statement (.tor1ToriyOr w a imm) := rfl
theorem FormatRoundTrip.tor1TodryOr (w : Width) (a : Reg) :
    FormatRoundTrip.Statement (.tor1TodryOr w a) := rfl
theorem FormatRoundTrip.tor1TorarOr (w : Width) (a : Reg) :
    FormatRoundTrip.Statement (.tor1TorarOr w a) := rfl
theorem FormatRoundTrip.tor1TorirOr (w : Width) (a : Reg) (imm : Word) :
    FormatRoundTrip.Statement (.tor1TorirOr w a imm) := rfl
theorem FormatRoundTrip.tor1TodrrOr (w : Width) (a : Reg) :
    FormatRoundTrip.Statement (.tor1TodrrOr w a) := rfl
theorem FormatRoundTrip.tor1ToraaExnor (w : Width) (a : Reg) :
    FormatRoundTrip.Statement (.tor1ToraaExnor w a) := rfl
theorem FormatRoundTrip.tor1ToriaExnor (w : Width) (a : Reg) (imm : Word) :
    FormatRoundTrip.Statement (.tor1ToriaExnor w a imm) := rfl
theorem FormatRoundTrip.tor1TodraExnor (w : Width) (a : Reg) :
    FormatRoundTrip.Statement (.tor1TodraExnor w a) := rfl
theorem FormatRoundTrip.tor1TorayExnor (w : Width) (a : Reg) :
    FormatRoundTrip.Statement (.tor1TorayExnor w a) := rfl
theorem FormatRoundTrip.tor1ToriyExnor (w : Width) (a : Reg) (imm : Word) :
    FormatRoundTrip.Statement (.tor1ToriyExnor w a imm) := rfl
theorem FormatRoundTrip.tor1TodryExnor (w : Width) (a : Reg) :
    FormatRoundTrip.Statement (.tor1TodryExnor w a) := rfl
theorem FormatRoundTrip.tor1TorarExnor (w : Width) (a : Reg) :
    FormatRoundTrip.Statement (.tor1TorarExnor w a) := rfl
theorem FormatRoundTrip.tor1TorirExnor (w : Width) (a : Reg) (imm : Word) :
    FormatRoundTrip.Statement (.tor1TorirExnor w a imm) := rfl
theorem FormatRoundTrip.tor1TodrrExnor (w : Width) (a : Reg) :
    FormatRoundTrip.Statement (.tor1TodrrExnor w a) := rfl
theorem FormatRoundTrip.tor2TodarSubr (w : Width) (a : Reg) :
    FormatRoundTrip.Statement (.tor2TodarSubr w a) := rfl
theorem FormatRoundTrip.tor2ToairSubr (w : Width) (a : Reg) (imm : Word) :
    FormatRoundTrip.Statement (.tor2ToairSubr w a imm) := rfl
theorem FormatRoundTrip.tor2TodirSubr (w : Width) (a : Reg) (imm : Word) :
    FormatRoundTrip.Statement (.tor2TodirSubr w a imm) := rfl
theorem FormatRoundTrip.tor2TodarSubrc (w : Width) (a : Reg) :
    FormatRoundTrip.Statement (.tor2TodarSubrc w a) := rfl
theorem FormatRoundTrip.tor2ToairSubrc (w : Width) (a : Reg) (imm : Word) :
    FormatRoundTrip.Statement (.tor2ToairSubrc w a imm) := rfl
theorem FormatRoundTrip.tor2TodirSubrc (w : Width) (a : Reg) (imm : Word) :
    FormatRoundTrip.Statement (.tor2TodirSubrc w a imm) := rfl
theorem FormatRoundTrip.tor2TodarSubs (w : Width) (a : Reg) :
    FormatRoundTrip.Statement (.tor2TodarSubs w a) := rfl
theorem FormatRoundTrip.tor2ToairSubs (w : Width) (a : Reg) (imm : Word) :
    FormatRoundTrip.Statement (.tor2ToairSubs w a imm) := rfl
theorem FormatRoundTrip.tor2TodirSubs (w : Width) (a : Reg) (imm : Word) :
    FormatRoundTrip.Statement (.tor2TodirSubs w a imm) := rfl
theorem FormatRoundTrip.tor2TodarSubsc (w : Width) (a : Reg) :
    FormatRoundTrip.Statement (.tor2TodarSubsc w a) := rfl
theorem FormatRoundTrip.tor2ToairSubsc (w : Width) (a : Reg) (imm : Word) :
    FormatRoundTrip.Statement (.tor2ToairSubsc w a imm) := rfl
theorem FormatRoundTrip.tor2TodirSubsc (w : Width) (a : Reg) (imm : Word) :
    FormatRoundTrip.Statement (.tor2TodirSubsc w a imm) := rfl
theorem FormatRoundTrip.tor2TodarAdd (w : Width) (a : Reg) :
    FormatRoundTrip.Statement (.tor2TodarAdd w a) := rfl
theorem FormatRoundTrip.tor2ToairAdd (w : Width) (a : Reg) (imm : Word) :
    FormatRoundTrip.Statement (.tor2ToairAdd w a imm) := rfl
theorem FormatRoundTrip.tor2TodirAdd (w : Width) (a : Reg) (imm : Word) :
    FormatRoundTrip.Statement (.tor2TodirAdd w a imm) := rfl
theorem FormatRoundTrip.tor2TodarAddc (w : Width) (a : Reg) :
    FormatRoundTrip.Statement (.tor2TodarAddc w a) := rfl
theorem FormatRoundTrip.tor2ToairAddc (w : Width) (a : Reg) (imm : Word) :
    FormatRoundTrip.Statement (.tor2ToairAddc w a imm) := rfl
theorem FormatRoundTrip.tor2TodirAddc (w : Width) (a : Reg) (imm : Word) :
    FormatRoundTrip.Statement (.tor2TodirAddc w a imm) := rfl
theorem FormatRoundTrip.tor2TodarAnd (w : Width) (a : Reg) :
    FormatRoundTrip.Statement (.tor2TodarAnd w a) := rfl
theorem FormatRoundTrip.tor2ToairAnd (w : Width) (a : Reg) (imm : Word) :
    FormatRoundTrip.Statement (.tor2ToairAnd w a imm) := rfl
theorem FormatRoundTrip.tor2TodirAnd (w : Width) (a : Reg) (imm : Word) :
    FormatRoundTrip.Statement (.tor2TodirAnd w a imm) := rfl
theorem FormatRoundTrip.tor2TodarNand (w : Width) (a : Reg) :
    FormatRoundTrip.Statement (.tor2TodarNand w a) := rfl
theorem FormatRoundTrip.tor2ToairNand (w : Width) (a : Reg) (imm : Word) :
    FormatRoundTrip.Statement (.tor2ToairNand w a imm) := rfl
theorem FormatRoundTrip.tor2TodirNand (w : Width) (a : Reg) (imm : Word) :
    FormatRoundTrip.Statement (.tor2TodirNand w a imm) := rfl
theorem FormatRoundTrip.tor2TodarExor (w : Width) (a : Reg) :
    FormatRoundTrip.Statement (.tor2TodarExor w a) := rfl
theorem FormatRoundTrip.tor2ToairExor (w : Width) (a : Reg) (imm : Word) :
    FormatRoundTrip.Statement (.tor2ToairExor w a imm) := rfl
theorem FormatRoundTrip.tor2TodirExor (w : Width) (a : Reg) (imm : Word) :
    FormatRoundTrip.Statement (.tor2TodirExor w a imm) := rfl
theorem FormatRoundTrip.tor2TodarNor (w : Width) (a : Reg) :
    FormatRoundTrip.Statement (.tor2TodarNor w a) := rfl
theorem FormatRoundTrip.tor2ToairNor (w : Width) (a : Reg) (imm : Word) :
    FormatRoundTrip.Statement (.tor2ToairNor w a imm) := rfl
theorem FormatRoundTrip.tor2TodirNor (w : Width) (a : Reg) (imm : Word) :
    FormatRoundTrip.Statement (.tor2TodirNor w a imm) := rfl
theorem FormatRoundTrip.tor2TodarOr (w : Width) (a : Reg) :
    FormatRoundTrip.Statement (.tor2TodarOr w a) := rfl
theorem FormatRoundTrip.tor2ToairOr (w : Width) (a : Reg) (imm : Word) :
    FormatRoundTrip.Statement (.tor2ToairOr w a imm) := rfl
theorem FormatRoundTrip.tor2TodirOr (w : Width) (a : Reg) (imm : Word) :
    FormatRoundTrip.Statement (.tor2TodirOr w a imm) := rfl
theorem FormatRoundTrip.tor2TodarExnor (w : Width) (a : Reg) :
    FormatRoundTrip.Statement (.tor2TodarExnor w a) := rfl
theorem FormatRoundTrip.tor2ToairExnor (w : Width) (a : Reg) (imm : Word) :
    FormatRoundTrip.Statement (.tor2ToairExnor w a imm) := rfl
theorem FormatRoundTrip.tor2TodirExnor (w : Width) (a : Reg) (imm : Word) :
    FormatRoundTrip.Statement (.tor2TodirExnor w a imm) := rfl
theorem FormatRoundTrip.tonrTodaSubrNry (w : Width) :
    FormatRoundTrip.Statement (.tonrTodaSubrNry w) := rfl
theorem FormatRoundTrip.tonrTodaSubrNra (w : Width) :
    FormatRoundTrip.Statement (.tonrTodaSubrNra w) := rfl
theorem FormatRoundTrip.tonrTodaSubrNrs (w : Width) :
    FormatRoundTrip.Statement (.tonrTodaSubrNrs w) := rfl
theorem FormatRoundTrip.tonrTodaSubrNras (w : Width) :
    FormatRoundTrip.Statement (.tonrTodaSubrNras w) := rfl
theorem FormatRoundTrip.tonrToaiSubrNry (w : Width) (imm : Word) :
    FormatRoundTrip.Statement (.tonrToaiSubrNry w imm) := rfl
theorem FormatRoundTrip.tonrToaiSubrNra (w : Width) (imm : Word) :
    FormatRoundTrip.Statement (.tonrToaiSubrNra w imm) := rfl
theorem FormatRoundTrip.tonrToaiSubrNrs (w : Width) (imm : Word) :
    FormatRoundTrip.Statement (.tonrToaiSubrNrs w imm) := rfl
theorem FormatRoundTrip.tonrToaiSubrNras (w : Width) (imm : Word) :
    FormatRoundTrip.Statement (.tonrToaiSubrNras w imm) := rfl
theorem FormatRoundTrip.tonrTodiSubrNry (w : Width) (imm : Word) :
    FormatRoundTrip.Statement (.tonrTodiSubrNry w imm) := rfl
theorem FormatRoundTrip.tonrTodiSubrNra (w : Width) (imm : Word) :
    FormatRoundTrip.Statement (.tonrTodiSubrNra w imm) := rfl
theorem FormatRoundTrip.tonrTodiSubrNrs (w : Width) (imm : Word) :
    FormatRoundTrip.Statement (.tonrTodiSubrNrs w imm) := rfl
theorem FormatRoundTrip.tonrTodiSubrNras (w : Width) (imm : Word) :
    FormatRoundTrip.Statement (.tonrTodiSubrNras w imm) := rfl
theorem FormatRoundTrip.tonrTodaSubrcNry (w : Width) :
    FormatRoundTrip.Statement (.tonrTodaSubrcNry w) := rfl
theorem FormatRoundTrip.tonrTodaSubrcNra (w : Width) :
    FormatRoundTrip.Statement (.tonrTodaSubrcNra w) := rfl
theorem FormatRoundTrip.tonrTodaSubrcNrs (w : Width) :
    FormatRoundTrip.Statement (.tonrTodaSubrcNrs w) := rfl
theorem FormatRoundTrip.tonrTodaSubrcNras (w : Width) :
    FormatRoundTrip.Statement (.tonrTodaSubrcNras w) := rfl
theorem FormatRoundTrip.tonrToaiSubrcNry (w : Width) (imm : Word) :
    FormatRoundTrip.Statement (.tonrToaiSubrcNry w imm) := rfl
theorem FormatRoundTrip.tonrToaiSubrcNra (w : Width) (imm : Word) :
    FormatRoundTrip.Statement (.tonrToaiSubrcNra w imm) := rfl
theorem FormatRoundTrip.tonrToaiSubrcNrs (w : Width) (imm : Word) :
    FormatRoundTrip.Statement (.tonrToaiSubrcNrs w imm) := rfl
theorem FormatRoundTrip.tonrToaiSubrcNras (w : Width) (imm : Word) :
    FormatRoundTrip.Statement (.tonrToaiSubrcNras w imm) := rfl
theorem FormatRoundTrip.tonrTodiSubrcNry (w : Width) (imm : Word) :
    FormatRoundTrip.Statement (.tonrTodiSubrcNry w imm) := rfl
theorem FormatRoundTrip.tonrTodiSubrcNra (w : Width) (imm : Word) :
    FormatRoundTrip.Statement (.tonrTodiSubrcNra w imm) := rfl
theorem FormatRoundTrip.tonrTodiSubrcNrs (w : Width) (imm : Word) :
    FormatRoundTrip.Statement (.tonrTodiSubrcNrs w imm) := rfl
theorem FormatRoundTrip.tonrTodiSubrcNras (w : Width) (imm : Word) :
    FormatRoundTrip.Statement (.tonrTodiSubrcNras w imm) := rfl
theorem FormatRoundTrip.tonrTodaSubsNry (w : Width) :
    FormatRoundTrip.Statement (.tonrTodaSubsNry w) := rfl
theorem FormatRoundTrip.tonrTodaSubsNra (w : Width) :
    FormatRoundTrip.Statement (.tonrTodaSubsNra w) := rfl
theorem FormatRoundTrip.tonrTodaSubsNrs (w : Width) :
    FormatRoundTrip.Statement (.tonrTodaSubsNrs w) := rfl
theorem FormatRoundTrip.tonrTodaSubsNras (w : Width) :
    FormatRoundTrip.Statement (.tonrTodaSubsNras w) := rfl
theorem FormatRoundTrip.tonrToaiSubsNry (w : Width) (imm : Word) :
    FormatRoundTrip.Statement (.tonrToaiSubsNry w imm) := rfl
theorem FormatRoundTrip.tonrToaiSubsNra (w : Width) (imm : Word) :
    FormatRoundTrip.Statement (.tonrToaiSubsNra w imm) := rfl
theorem FormatRoundTrip.tonrToaiSubsNrs (w : Width) (imm : Word) :
    FormatRoundTrip.Statement (.tonrToaiSubsNrs w imm) := rfl
theorem FormatRoundTrip.tonrToaiSubsNras (w : Width) (imm : Word) :
    FormatRoundTrip.Statement (.tonrToaiSubsNras w imm) := rfl
theorem FormatRoundTrip.tonrTodiSubsNry (w : Width) (imm : Word) :
    FormatRoundTrip.Statement (.tonrTodiSubsNry w imm) := rfl
theorem FormatRoundTrip.tonrTodiSubsNra (w : Width) (imm : Word) :
    FormatRoundTrip.Statement (.tonrTodiSubsNra w imm) := rfl
theorem FormatRoundTrip.tonrTodiSubsNrs (w : Width) (imm : Word) :
    FormatRoundTrip.Statement (.tonrTodiSubsNrs w imm) := rfl
theorem FormatRoundTrip.tonrTodiSubsNras (w : Width) (imm : Word) :
    FormatRoundTrip.Statement (.tonrTodiSubsNras w imm) := rfl
theorem FormatRoundTrip.tonrTodaSubscNry (w : Width) :
    FormatRoundTrip.Statement (.tonrTodaSubscNry w) := rfl
theorem FormatRoundTrip.tonrTodaSubscNra (w : Width) :
    FormatRoundTrip.Statement (.tonrTodaSubscNra w) := rfl
theorem FormatRoundTrip.tonrTodaSubscNrs (w : Width) :
    FormatRoundTrip.Statement (.tonrTodaSubscNrs w) := rfl
theorem FormatRoundTrip.tonrTodaSubscNras (w : Width) :
    FormatRoundTrip.Statement (.tonrTodaSubscNras w) := rfl
theorem FormatRoundTrip.tonrToaiSubscNry (w : Width) (imm : Word) :
    FormatRoundTrip.Statement (.tonrToaiSubscNry w imm) := rfl
theorem FormatRoundTrip.tonrToaiSubscNra (w : Width) (imm : Word) :
    FormatRoundTrip.Statement (.tonrToaiSubscNra w imm) := rfl
theorem FormatRoundTrip.tonrToaiSubscNrs (w : Width) (imm : Word) :
    FormatRoundTrip.Statement (.tonrToaiSubscNrs w imm) := rfl
theorem FormatRoundTrip.tonrToaiSubscNras (w : Width) (imm : Word) :
    FormatRoundTrip.Statement (.tonrToaiSubscNras w imm) := rfl
theorem FormatRoundTrip.tonrTodiSubscNry (w : Width) (imm : Word) :
    FormatRoundTrip.Statement (.tonrTodiSubscNry w imm) := rfl
theorem FormatRoundTrip.tonrTodiSubscNra (w : Width) (imm : Word) :
    FormatRoundTrip.Statement (.tonrTodiSubscNra w imm) := rfl
theorem FormatRoundTrip.tonrTodiSubscNrs (w : Width) (imm : Word) :
    FormatRoundTrip.Statement (.tonrTodiSubscNrs w imm) := rfl
theorem FormatRoundTrip.tonrTodiSubscNras (w : Width) (imm : Word) :
    FormatRoundTrip.Statement (.tonrTodiSubscNras w imm) := rfl
theorem FormatRoundTrip.tonrTodaAddNry (w : Width) :
    FormatRoundTrip.Statement (.tonrTodaAddNry w) := rfl
theorem FormatRoundTrip.tonrTodaAddNra (w : Width) :
    FormatRoundTrip.Statement (.tonrTodaAddNra w) := rfl
theorem FormatRoundTrip.tonrTodaAddNrs (w : Width) :
    FormatRoundTrip.Statement (.tonrTodaAddNrs w) := rfl
theorem FormatRoundTrip.tonrTodaAddNras (w : Width) :
    FormatRoundTrip.Statement (.tonrTodaAddNras w) := rfl
theorem FormatRoundTrip.tonrToaiAddNry (w : Width) (imm : Word) :
    FormatRoundTrip.Statement (.tonrToaiAddNry w imm) := rfl
theorem FormatRoundTrip.tonrToaiAddNra (w : Width) (imm : Word) :
    FormatRoundTrip.Statement (.tonrToaiAddNra w imm) := rfl
theorem FormatRoundTrip.tonrToaiAddNrs (w : Width) (imm : Word) :
    FormatRoundTrip.Statement (.tonrToaiAddNrs w imm) := rfl
theorem FormatRoundTrip.tonrToaiAddNras (w : Width) (imm : Word) :
    FormatRoundTrip.Statement (.tonrToaiAddNras w imm) := rfl
theorem FormatRoundTrip.tonrTodiAddNry (w : Width) (imm : Word) :
    FormatRoundTrip.Statement (.tonrTodiAddNry w imm) := rfl
theorem FormatRoundTrip.tonrTodiAddNra (w : Width) (imm : Word) :
    FormatRoundTrip.Statement (.tonrTodiAddNra w imm) := rfl
theorem FormatRoundTrip.tonrTodiAddNrs (w : Width) (imm : Word) :
    FormatRoundTrip.Statement (.tonrTodiAddNrs w imm) := rfl
theorem FormatRoundTrip.tonrTodiAddNras (w : Width) (imm : Word) :
    FormatRoundTrip.Statement (.tonrTodiAddNras w imm) := rfl
theorem FormatRoundTrip.tonrTodaAddcNry (w : Width) :
    FormatRoundTrip.Statement (.tonrTodaAddcNry w) := rfl
theorem FormatRoundTrip.tonrTodaAddcNra (w : Width) :
    FormatRoundTrip.Statement (.tonrTodaAddcNra w) := rfl
theorem FormatRoundTrip.tonrTodaAddcNrs (w : Width) :
    FormatRoundTrip.Statement (.tonrTodaAddcNrs w) := rfl
theorem FormatRoundTrip.tonrTodaAddcNras (w : Width) :
    FormatRoundTrip.Statement (.tonrTodaAddcNras w) := rfl
theorem FormatRoundTrip.tonrToaiAddcNry (w : Width) (imm : Word) :
    FormatRoundTrip.Statement (.tonrToaiAddcNry w imm) := rfl
theorem FormatRoundTrip.tonrToaiAddcNra (w : Width) (imm : Word) :
    FormatRoundTrip.Statement (.tonrToaiAddcNra w imm) := rfl
theorem FormatRoundTrip.tonrToaiAddcNrs (w : Width) (imm : Word) :
    FormatRoundTrip.Statement (.tonrToaiAddcNrs w imm) := rfl
theorem FormatRoundTrip.tonrToaiAddcNras (w : Width) (imm : Word) :
    FormatRoundTrip.Statement (.tonrToaiAddcNras w imm) := rfl
theorem FormatRoundTrip.tonrTodiAddcNry (w : Width) (imm : Word) :
    FormatRoundTrip.Statement (.tonrTodiAddcNry w imm) := rfl
theorem FormatRoundTrip.tonrTodiAddcNra (w : Width) (imm : Word) :
    FormatRoundTrip.Statement (.tonrTodiAddcNra w imm) := rfl
theorem FormatRoundTrip.tonrTodiAddcNrs (w : Width) (imm : Word) :
    FormatRoundTrip.Statement (.tonrTodiAddcNrs w imm) := rfl
theorem FormatRoundTrip.tonrTodiAddcNras (w : Width) (imm : Word) :
    FormatRoundTrip.Statement (.tonrTodiAddcNras w imm) := rfl
theorem FormatRoundTrip.tonrTodaAndNry (w : Width) :
    FormatRoundTrip.Statement (.tonrTodaAndNry w) := rfl
theorem FormatRoundTrip.tonrTodaAndNra (w : Width) :
    FormatRoundTrip.Statement (.tonrTodaAndNra w) := rfl
theorem FormatRoundTrip.tonrTodaAndNrs (w : Width) :
    FormatRoundTrip.Statement (.tonrTodaAndNrs w) := rfl
theorem FormatRoundTrip.tonrTodaAndNras (w : Width) :
    FormatRoundTrip.Statement (.tonrTodaAndNras w) := rfl
theorem FormatRoundTrip.tonrToaiAndNry (w : Width) (imm : Word) :
    FormatRoundTrip.Statement (.tonrToaiAndNry w imm) := rfl
theorem FormatRoundTrip.tonrToaiAndNra (w : Width) (imm : Word) :
    FormatRoundTrip.Statement (.tonrToaiAndNra w imm) := rfl
theorem FormatRoundTrip.tonrToaiAndNrs (w : Width) (imm : Word) :
    FormatRoundTrip.Statement (.tonrToaiAndNrs w imm) := rfl
theorem FormatRoundTrip.tonrToaiAndNras (w : Width) (imm : Word) :
    FormatRoundTrip.Statement (.tonrToaiAndNras w imm) := rfl
theorem FormatRoundTrip.tonrTodiAndNry (w : Width) (imm : Word) :
    FormatRoundTrip.Statement (.tonrTodiAndNry w imm) := rfl
theorem FormatRoundTrip.tonrTodiAndNra (w : Width) (imm : Word) :
    FormatRoundTrip.Statement (.tonrTodiAndNra w imm) := rfl
theorem FormatRoundTrip.tonrTodiAndNrs (w : Width) (imm : Word) :
    FormatRoundTrip.Statement (.tonrTodiAndNrs w imm) := rfl
theorem FormatRoundTrip.tonrTodiAndNras (w : Width) (imm : Word) :
    FormatRoundTrip.Statement (.tonrTodiAndNras w imm) := rfl
theorem FormatRoundTrip.tonrTodaNandNry (w : Width) :
    FormatRoundTrip.Statement (.tonrTodaNandNry w) := rfl
theorem FormatRoundTrip.tonrTodaNandNra (w : Width) :
    FormatRoundTrip.Statement (.tonrTodaNandNra w) := rfl
theorem FormatRoundTrip.tonrTodaNandNrs (w : Width) :
    FormatRoundTrip.Statement (.tonrTodaNandNrs w) := rfl
theorem FormatRoundTrip.tonrTodaNandNras (w : Width) :
    FormatRoundTrip.Statement (.tonrTodaNandNras w) := rfl
theorem FormatRoundTrip.tonrToaiNandNry (w : Width) (imm : Word) :
    FormatRoundTrip.Statement (.tonrToaiNandNry w imm) := rfl
theorem FormatRoundTrip.tonrToaiNandNra (w : Width) (imm : Word) :
    FormatRoundTrip.Statement (.tonrToaiNandNra w imm) := rfl
theorem FormatRoundTrip.tonrToaiNandNrs (w : Width) (imm : Word) :
    FormatRoundTrip.Statement (.tonrToaiNandNrs w imm) := rfl
theorem FormatRoundTrip.tonrToaiNandNras (w : Width) (imm : Word) :
    FormatRoundTrip.Statement (.tonrToaiNandNras w imm) := rfl
theorem FormatRoundTrip.tonrTodiNandNry (w : Width) (imm : Word) :
    FormatRoundTrip.Statement (.tonrTodiNandNry w imm) := rfl
theorem FormatRoundTrip.tonrTodiNandNra (w : Width) (imm : Word) :
    FormatRoundTrip.Statement (.tonrTodiNandNra w imm) := rfl
theorem FormatRoundTrip.tonrTodiNandNrs (w : Width) (imm : Word) :
    FormatRoundTrip.Statement (.tonrTodiNandNrs w imm) := rfl
theorem FormatRoundTrip.tonrTodiNandNras (w : Width) (imm : Word) :
    FormatRoundTrip.Statement (.tonrTodiNandNras w imm) := rfl
theorem FormatRoundTrip.tonrTodaExorNry (w : Width) :
    FormatRoundTrip.Statement (.tonrTodaExorNry w) := rfl
theorem FormatRoundTrip.tonrTodaExorNra (w : Width) :
    FormatRoundTrip.Statement (.tonrTodaExorNra w) := rfl
theorem FormatRoundTrip.tonrTodaExorNrs (w : Width) :
    FormatRoundTrip.Statement (.tonrTodaExorNrs w) := rfl
theorem FormatRoundTrip.tonrTodaExorNras (w : Width) :
    FormatRoundTrip.Statement (.tonrTodaExorNras w) := rfl
theorem FormatRoundTrip.tonrToaiExorNry (w : Width) (imm : Word) :
    FormatRoundTrip.Statement (.tonrToaiExorNry w imm) := rfl
theorem FormatRoundTrip.tonrToaiExorNra (w : Width) (imm : Word) :
    FormatRoundTrip.Statement (.tonrToaiExorNra w imm) := rfl
theorem FormatRoundTrip.tonrToaiExorNrs (w : Width) (imm : Word) :
    FormatRoundTrip.Statement (.tonrToaiExorNrs w imm) := rfl
theorem FormatRoundTrip.tonrToaiExorNras (w : Width) (imm : Word) :
    FormatRoundTrip.Statement (.tonrToaiExorNras w imm) := rfl
theorem FormatRoundTrip.tonrTodiExorNry (w : Width) (imm : Word) :
    FormatRoundTrip.Statement (.tonrTodiExorNry w imm) := rfl
theorem FormatRoundTrip.tonrTodiExorNra (w : Width) (imm : Word) :
    FormatRoundTrip.Statement (.tonrTodiExorNra w imm) := rfl
theorem FormatRoundTrip.tonrTodiExorNrs (w : Width) (imm : Word) :
    FormatRoundTrip.Statement (.tonrTodiExorNrs w imm) := rfl
theorem FormatRoundTrip.tonrTodiExorNras (w : Width) (imm : Word) :
    FormatRoundTrip.Statement (.tonrTodiExorNras w imm) := rfl
theorem FormatRoundTrip.tonrTodaNorNry (w : Width) :
    FormatRoundTrip.Statement (.tonrTodaNorNry w) := rfl
theorem FormatRoundTrip.tonrTodaNorNra (w : Width) :
    FormatRoundTrip.Statement (.tonrTodaNorNra w) := rfl
theorem FormatRoundTrip.tonrTodaNorNrs (w : Width) :
    FormatRoundTrip.Statement (.tonrTodaNorNrs w) := rfl
theorem FormatRoundTrip.tonrTodaNorNras (w : Width) :
    FormatRoundTrip.Statement (.tonrTodaNorNras w) := rfl
theorem FormatRoundTrip.tonrToaiNorNry (w : Width) (imm : Word) :
    FormatRoundTrip.Statement (.tonrToaiNorNry w imm) := rfl
theorem FormatRoundTrip.tonrToaiNorNra (w : Width) (imm : Word) :
    FormatRoundTrip.Statement (.tonrToaiNorNra w imm) := rfl
theorem FormatRoundTrip.tonrToaiNorNrs (w : Width) (imm : Word) :
    FormatRoundTrip.Statement (.tonrToaiNorNrs w imm) := rfl
theorem FormatRoundTrip.tonrToaiNorNras (w : Width) (imm : Word) :
    FormatRoundTrip.Statement (.tonrToaiNorNras w imm) := rfl
theorem FormatRoundTrip.tonrTodiNorNry (w : Width) (imm : Word) :
    FormatRoundTrip.Statement (.tonrTodiNorNry w imm) := rfl
theorem FormatRoundTrip.tonrTodiNorNra (w : Width) (imm : Word) :
    FormatRoundTrip.Statement (.tonrTodiNorNra w imm) := rfl
theorem FormatRoundTrip.tonrTodiNorNrs (w : Width) (imm : Word) :
    FormatRoundTrip.Statement (.tonrTodiNorNrs w imm) := rfl
theorem FormatRoundTrip.tonrTodiNorNras (w : Width) (imm : Word) :
    FormatRoundTrip.Statement (.tonrTodiNorNras w imm) := rfl
theorem FormatRoundTrip.tonrTodaOrNry (w : Width) :
    FormatRoundTrip.Statement (.tonrTodaOrNry w) := rfl
theorem FormatRoundTrip.tonrTodaOrNra (w : Width) :
    FormatRoundTrip.Statement (.tonrTodaOrNra w) := rfl
theorem FormatRoundTrip.tonrTodaOrNrs (w : Width) :
    FormatRoundTrip.Statement (.tonrTodaOrNrs w) := rfl
theorem FormatRoundTrip.tonrTodaOrNras (w : Width) :
    FormatRoundTrip.Statement (.tonrTodaOrNras w) := rfl
theorem FormatRoundTrip.tonrToaiOrNry (w : Width) (imm : Word) :
    FormatRoundTrip.Statement (.tonrToaiOrNry w imm) := rfl
theorem FormatRoundTrip.tonrToaiOrNra (w : Width) (imm : Word) :
    FormatRoundTrip.Statement (.tonrToaiOrNra w imm) := rfl
theorem FormatRoundTrip.tonrToaiOrNrs (w : Width) (imm : Word) :
    FormatRoundTrip.Statement (.tonrToaiOrNrs w imm) := rfl
theorem FormatRoundTrip.tonrToaiOrNras (w : Width) (imm : Word) :
    FormatRoundTrip.Statement (.tonrToaiOrNras w imm) := rfl
theorem FormatRoundTrip.tonrTodiOrNry (w : Width) (imm : Word) :
    FormatRoundTrip.Statement (.tonrTodiOrNry w imm) := rfl
theorem FormatRoundTrip.tonrTodiOrNra (w : Width) (imm : Word) :
    FormatRoundTrip.Statement (.tonrTodiOrNra w imm) := rfl
theorem FormatRoundTrip.tonrTodiOrNrs (w : Width) (imm : Word) :
    FormatRoundTrip.Statement (.tonrTodiOrNrs w imm) := rfl
theorem FormatRoundTrip.tonrTodiOrNras (w : Width) (imm : Word) :
    FormatRoundTrip.Statement (.tonrTodiOrNras w imm) := rfl
theorem FormatRoundTrip.tonrTodaExnorNry (w : Width) :
    FormatRoundTrip.Statement (.tonrTodaExnorNry w) := rfl
theorem FormatRoundTrip.tonrTodaExnorNra (w : Width) :
    FormatRoundTrip.Statement (.tonrTodaExnorNra w) := rfl
theorem FormatRoundTrip.tonrTodaExnorNrs (w : Width) :
    FormatRoundTrip.Statement (.tonrTodaExnorNrs w) := rfl
theorem FormatRoundTrip.tonrTodaExnorNras (w : Width) :
    FormatRoundTrip.Statement (.tonrTodaExnorNras w) := rfl
theorem FormatRoundTrip.tonrToaiExnorNry (w : Width) (imm : Word) :
    FormatRoundTrip.Statement (.tonrToaiExnorNry w imm) := rfl
theorem FormatRoundTrip.tonrToaiExnorNra (w : Width) (imm : Word) :
    FormatRoundTrip.Statement (.tonrToaiExnorNra w imm) := rfl
theorem FormatRoundTrip.tonrToaiExnorNrs (w : Width) (imm : Word) :
    FormatRoundTrip.Statement (.tonrToaiExnorNrs w imm) := rfl
theorem FormatRoundTrip.tonrToaiExnorNras (w : Width) (imm : Word) :
    FormatRoundTrip.Statement (.tonrToaiExnorNras w imm) := rfl
theorem FormatRoundTrip.tonrTodiExnorNry (w : Width) (imm : Word) :
    FormatRoundTrip.Statement (.tonrTodiExnorNry w imm) := rfl
theorem FormatRoundTrip.tonrTodiExnorNra (w : Width) (imm : Word) :
    FormatRoundTrip.Statement (.tonrTodiExnorNra w imm) := rfl
theorem FormatRoundTrip.tonrTodiExnorNrs (w : Width) (imm : Word) :
    FormatRoundTrip.Statement (.tonrTodiExnorNrs w imm) := rfl
theorem FormatRoundTrip.tonrTodiExnorNras (w : Width) (imm : Word) :
    FormatRoundTrip.Statement (.tonrTodiExnorNras w imm) := rfl
theorem FormatRoundTrip.shftrShrrShupz (w : Width) (a : Reg) :
    FormatRoundTrip.Statement (.shftrShrrShupz w a) := rfl
theorem FormatRoundTrip.shftrShdrShupz (w : Width) (a : Reg) :
    FormatRoundTrip.Statement (.shftrShdrShupz w a) := rfl
theorem FormatRoundTrip.shftrShrrShup1 (w : Width) (a : Reg) :
    FormatRoundTrip.Statement (.shftrShrrShup1 w a) := rfl
theorem FormatRoundTrip.shftrShdrShup1 (w : Width) (a : Reg) :
    FormatRoundTrip.Statement (.shftrShdrShup1 w a) := rfl
theorem FormatRoundTrip.shftrShrrShupl (w : Width) (a : Reg) :
    FormatRoundTrip.Statement (.shftrShrrShupl w a) := rfl
theorem FormatRoundTrip.shftrShdrShupl (w : Width) (a : Reg) :
    FormatRoundTrip.Statement (.shftrShdrShupl w a) := rfl
theorem FormatRoundTrip.shftrShrrShdnz (w : Width) (a : Reg) :
    FormatRoundTrip.Statement (.shftrShrrShdnz w a) := rfl
theorem FormatRoundTrip.shftrShdrShdnz (w : Width) (a : Reg) :
    FormatRoundTrip.Statement (.shftrShdrShdnz w a) := rfl
theorem FormatRoundTrip.shftrShrrShdn1 (w : Width) (a : Reg) :
    FormatRoundTrip.Statement (.shftrShrrShdn1 w a) := rfl
theorem FormatRoundTrip.shftrShdrShdn1 (w : Width) (a : Reg) :
    FormatRoundTrip.Statement (.shftrShdrShdn1 w a) := rfl
theorem FormatRoundTrip.shftrShrrShdnl (w : Width) (a : Reg) :
    FormatRoundTrip.Statement (.shftrShrrShdnl w a) := rfl
theorem FormatRoundTrip.shftrShdrShdnl (w : Width) (a : Reg) :
    FormatRoundTrip.Statement (.shftrShdrShdnl w a) := rfl
theorem FormatRoundTrip.shftrShrrShdnc (w : Width) (a : Reg) :
    FormatRoundTrip.Statement (.shftrShrrShdnc w a) := rfl
theorem FormatRoundTrip.shftrShdrShdnc (w : Width) (a : Reg) :
    FormatRoundTrip.Statement (.shftrShdrShdnc w a) := rfl
theorem FormatRoundTrip.shftrShrrShdnov (w : Width) (a : Reg) :
    FormatRoundTrip.Statement (.shftrShrrShdnov w a) := rfl
theorem FormatRoundTrip.shftrShdrShdnov (w : Width) (a : Reg) :
    FormatRoundTrip.Statement (.shftrShdrShdnov w a) := rfl
theorem FormatRoundTrip.shftnrShaShupzNry (w : Width) :
    FormatRoundTrip.Statement (.shftnrShaShupzNry w) := rfl
theorem FormatRoundTrip.shftnrShaShupzNra (w : Width) :
    FormatRoundTrip.Statement (.shftnrShaShupzNra w) := rfl
theorem FormatRoundTrip.shftnrShdShupzNry (w : Width) :
    FormatRoundTrip.Statement (.shftnrShdShupzNry w) := rfl
theorem FormatRoundTrip.shftnrShdShupzNra (w : Width) :
    FormatRoundTrip.Statement (.shftnrShdShupzNra w) := rfl
theorem FormatRoundTrip.shftnrShaShup1Nry (w : Width) :
    FormatRoundTrip.Statement (.shftnrShaShup1Nry w) := rfl
theorem FormatRoundTrip.shftnrShaShup1Nra (w : Width) :
    FormatRoundTrip.Statement (.shftnrShaShup1Nra w) := rfl
theorem FormatRoundTrip.shftnrShdShup1Nry (w : Width) :
    FormatRoundTrip.Statement (.shftnrShdShup1Nry w) := rfl
theorem FormatRoundTrip.shftnrShdShup1Nra (w : Width) :
    FormatRoundTrip.Statement (.shftnrShdShup1Nra w) := rfl
theorem FormatRoundTrip.shftnrShaShuplNry (w : Width) :
    FormatRoundTrip.Statement (.shftnrShaShuplNry w) := rfl
theorem FormatRoundTrip.shftnrShaShuplNra (w : Width) :
    FormatRoundTrip.Statement (.shftnrShaShuplNra w) := rfl
theorem FormatRoundTrip.shftnrShdShuplNry (w : Width) :
    FormatRoundTrip.Statement (.shftnrShdShuplNry w) := rfl
theorem FormatRoundTrip.shftnrShdShuplNra (w : Width) :
    FormatRoundTrip.Statement (.shftnrShdShuplNra w) := rfl
theorem FormatRoundTrip.shftnrShaShdnzNry (w : Width) :
    FormatRoundTrip.Statement (.shftnrShaShdnzNry w) := rfl
theorem FormatRoundTrip.shftnrShaShdnzNra (w : Width) :
    FormatRoundTrip.Statement (.shftnrShaShdnzNra w) := rfl
theorem FormatRoundTrip.shftnrShdShdnzNry (w : Width) :
    FormatRoundTrip.Statement (.shftnrShdShdnzNry w) := rfl
theorem FormatRoundTrip.shftnrShdShdnzNra (w : Width) :
    FormatRoundTrip.Statement (.shftnrShdShdnzNra w) := rfl
theorem FormatRoundTrip.shftnrShaShdn1Nry (w : Width) :
    FormatRoundTrip.Statement (.shftnrShaShdn1Nry w) := rfl
theorem FormatRoundTrip.shftnrShaShdn1Nra (w : Width) :
    FormatRoundTrip.Statement (.shftnrShaShdn1Nra w) := rfl
theorem FormatRoundTrip.shftnrShdShdn1Nry (w : Width) :
    FormatRoundTrip.Statement (.shftnrShdShdn1Nry w) := rfl
theorem FormatRoundTrip.shftnrShdShdn1Nra (w : Width) :
    FormatRoundTrip.Statement (.shftnrShdShdn1Nra w) := rfl
theorem FormatRoundTrip.shftnrShaShdnlNry (w : Width) :
    FormatRoundTrip.Statement (.shftnrShaShdnlNry w) := rfl
theorem FormatRoundTrip.shftnrShaShdnlNra (w : Width) :
    FormatRoundTrip.Statement (.shftnrShaShdnlNra w) := rfl
theorem FormatRoundTrip.shftnrShdShdnlNry (w : Width) :
    FormatRoundTrip.Statement (.shftnrShdShdnlNry w) := rfl
theorem FormatRoundTrip.shftnrShdShdnlNra (w : Width) :
    FormatRoundTrip.Statement (.shftnrShdShdnlNra w) := rfl
theorem FormatRoundTrip.shftnrShaShdncNry (w : Width) :
    FormatRoundTrip.Statement (.shftnrShaShdncNry w) := rfl
theorem FormatRoundTrip.shftnrShaShdncNra (w : Width) :
    FormatRoundTrip.Statement (.shftnrShaShdncNra w) := rfl
theorem FormatRoundTrip.shftnrShdShdncNry (w : Width) :
    FormatRoundTrip.Statement (.shftnrShdShdncNry w) := rfl
theorem FormatRoundTrip.shftnrShdShdncNra (w : Width) :
    FormatRoundTrip.Statement (.shftnrShdShdncNra w) := rfl
theorem FormatRoundTrip.shftnrShaShdnovNry (w : Width) :
    FormatRoundTrip.Statement (.shftnrShaShdnovNry w) := rfl
theorem FormatRoundTrip.shftnrShaShdnovNra (w : Width) :
    FormatRoundTrip.Statement (.shftnrShaShdnovNra w) := rfl
theorem FormatRoundTrip.shftnrShdShdnovNry (w : Width) :
    FormatRoundTrip.Statement (.shftnrShdShdnovNry w) := rfl
theorem FormatRoundTrip.shftnrShdShdnovNra (w : Width) :
    FormatRoundTrip.Statement (.shftnrShdShdnovNra w) := rfl
theorem FormatRoundTrip.bor1Setnr (w : Width) (n : BitNo) (a : Reg) :
    FormatRoundTrip.Statement (.bor1Setnr w n a) := rfl
theorem FormatRoundTrip.bor1Rstnr (w : Width) (n : BitNo) (a : Reg) :
    FormatRoundTrip.Statement (.bor1Rstnr w n a) := rfl
theorem FormatRoundTrip.bor1Tstnr (w : Width) (n : BitNo) (a : Reg) :
    FormatRoundTrip.Statement (.bor1Tstnr w n a) := rfl
theorem FormatRoundTrip.bor2Ld2nr (w : Width) (n : BitNo) (a : Reg) :
    FormatRoundTrip.Statement (.bor2Ld2nr w n a) := rfl
theorem FormatRoundTrip.bor2Ldc2nr (w : Width) (n : BitNo) (a : Reg) :
    FormatRoundTrip.Statement (.bor2Ldc2nr w n a) := rfl
theorem FormatRoundTrip.bor2A2nr (w : Width) (n : BitNo) (a : Reg) :
    FormatRoundTrip.Statement (.bor2A2nr w n a) := rfl
theorem FormatRoundTrip.bor2S2nr (w : Width) (n : BitNo) (a : Reg) :
    FormatRoundTrip.Statement (.bor2S2nr w n a) := rfl
theorem FormatRoundTrip.bonrTstna (w : Width) (n : BitNo) :
    FormatRoundTrip.Statement (.bonrTstna w n) := rfl
theorem FormatRoundTrip.bonrRstna (w : Width) (n : BitNo) :
    FormatRoundTrip.Statement (.bonrRstna w n) := rfl
theorem FormatRoundTrip.bonrSetna (w : Width) (n : BitNo) :
    FormatRoundTrip.Statement (.bonrSetna w n) := rfl
theorem FormatRoundTrip.bonrA2na (w : Width) (n : BitNo) :
    FormatRoundTrip.Statement (.bonrA2na w n) := rfl
theorem FormatRoundTrip.bonrS2na (w : Width) (n : BitNo) :
    FormatRoundTrip.Statement (.bonrS2na w n) := rfl
theorem FormatRoundTrip.bonrLd2na (w : Width) (n : BitNo) :
    FormatRoundTrip.Statement (.bonrLd2na w n) := rfl
theorem FormatRoundTrip.bonrLdc2na (w : Width) (n : BitNo) :
    FormatRoundTrip.Statement (.bonrLdc2na w n) := rfl
theorem FormatRoundTrip.bonrTstnd (w : Width) (n : BitNo) :
    FormatRoundTrip.Statement (.bonrTstnd w n) := rfl
theorem FormatRoundTrip.bonrRstnd (w : Width) (n : BitNo) :
    FormatRoundTrip.Statement (.bonrRstnd w n) := rfl
theorem FormatRoundTrip.bonrSetnd (w : Width) (n : BitNo) :
    FormatRoundTrip.Statement (.bonrSetnd w n) := rfl
theorem FormatRoundTrip.bonrA2ndy (w : Width) (n : BitNo) :
    FormatRoundTrip.Statement (.bonrA2ndy w n) := rfl
theorem FormatRoundTrip.bonrS2ndy (w : Width) (n : BitNo) :
    FormatRoundTrip.Statement (.bonrS2ndy w n) := rfl
theorem FormatRoundTrip.bonrLd2ny (w : Width) (n : BitNo) :
    FormatRoundTrip.Statement (.bonrLd2ny w n) := rfl
theorem FormatRoundTrip.bonrLdc2ny (w : Width) (n : BitNo) :
    FormatRoundTrip.Statement (.bonrLdc2ny w n) := rfl
theorem FormatRoundTrip.rotr1Rtra (w : Width) (n : BitNo) (a : Reg) :
    FormatRoundTrip.Statement (.rotr1Rtra w n a) := rfl
theorem FormatRoundTrip.rotr1Rtry (w : Width) (n : BitNo) (a : Reg) :
    FormatRoundTrip.Statement (.rotr1Rtry w n a) := rfl
theorem FormatRoundTrip.rotr1Rtrr (w : Width) (n : BitNo) (a : Reg) :
    FormatRoundTrip.Statement (.rotr1Rtrr w n a) := rfl
theorem FormatRoundTrip.rotr2Rtar (w : Width) (n : BitNo) (a : Reg) :
    FormatRoundTrip.Statement (.rotr2Rtar w n a) := rfl
theorem FormatRoundTrip.rotr2Rtdr (w : Width) (n : BitNo) (a : Reg) :
    FormatRoundTrip.Statement (.rotr2Rtdr w n a) := rfl
theorem FormatRoundTrip.rotnrRtdy (w : Width) (n : BitNo) :
    FormatRoundTrip.Statement (.rotnrRtdy w n) := rfl
theorem FormatRoundTrip.rotnrRtda (w : Width) (n : BitNo) :
    FormatRoundTrip.Statement (.rotnrRtda w n) := rfl
theorem FormatRoundTrip.rotnrRtay (w : Width) (n : BitNo) :
    FormatRoundTrip.Statement (.rotnrRtay w n) := rfl
theorem FormatRoundTrip.rotnrRtaa (w : Width) (n : BitNo) :
    FormatRoundTrip.Statement (.rotnrRtaa w n) := rfl
theorem FormatRoundTrip.rotcCdai (w : Width) (n : BitNo) (a : Reg) (imm : Word) :
    FormatRoundTrip.Statement (.rotcCdai w n a imm) := rfl
theorem FormatRoundTrip.rotcCdri (w : Width) (n : BitNo) (a : Reg) (imm : Word) :
    FormatRoundTrip.Statement (.rotcCdri w n a imm) := rfl
theorem FormatRoundTrip.rotcCdra (w : Width) (n : BitNo) (a : Reg) :
    FormatRoundTrip.Statement (.rotcCdra w n a) := rfl
theorem FormatRoundTrip.rotcCrai (w : Width) (n : BitNo) (a : Reg) (imm : Word) :
    FormatRoundTrip.Statement (.rotcCrai w n a imm) := rfl
theorem FormatRoundTrip.rotmMdai (w : Width) (n : BitNo) (a : Reg) (imm : Word) :
    FormatRoundTrip.Statement (.rotmMdai w n a imm) := rfl
theorem FormatRoundTrip.rotmMdar (w : Width) (n : BitNo) (a : Reg) :
    FormatRoundTrip.Statement (.rotmMdar w n a) := rfl
theorem FormatRoundTrip.rotmMdri (w : Width) (n : BitNo) (a : Reg) (imm : Word) :
    FormatRoundTrip.Statement (.rotmMdri w n a imm) := rfl
theorem FormatRoundTrip.rotmMdra (w : Width) (n : BitNo) (a : Reg) :
    FormatRoundTrip.Statement (.rotmMdra w n a) := rfl
theorem FormatRoundTrip.rotmMari (w : Width) (n : BitNo) (a : Reg) (imm : Word) :
    FormatRoundTrip.Statement (.rotmMari w n a imm) := rfl
theorem FormatRoundTrip.rotmMrai (w : Width) (n : BitNo) (a : Reg) (imm : Word) :
    FormatRoundTrip.Statement (.rotmMrai w n a imm) := rfl
theorem FormatRoundTrip.prt1Pr1aPrt1a (w : Width) (a : Reg) :
    FormatRoundTrip.Statement (.prt1Pr1aPrt1a w a) := rfl
theorem FormatRoundTrip.prt1Pr1aPrt1d (w : Width) (a : Reg) :
    FormatRoundTrip.Statement (.prt1Pr1aPrt1d w a) := rfl
theorem FormatRoundTrip.prt1Pr1yPrt1a (w : Width) (a : Reg) :
    FormatRoundTrip.Statement (.prt1Pr1yPrt1a w a) := rfl
theorem FormatRoundTrip.prt1Pr1yPrt1d (w : Width) (a : Reg) :
    FormatRoundTrip.Statement (.prt1Pr1yPrt1d w a) := rfl
theorem FormatRoundTrip.prt1Pr1rPrt1a (w : Width) (a : Reg) :
    FormatRoundTrip.Statement (.prt1Pr1rPrt1a w a) := rfl
theorem FormatRoundTrip.prt1Pr1rPrt1d (w : Width) (a : Reg) :
    FormatRoundTrip.Statement (.prt1Pr1rPrt1d w a) := rfl
theorem FormatRoundTrip.prt2PraPr2a (w : Width) (a : Reg) :
    FormatRoundTrip.Statement (.prt2PraPr2a w a) := rfl
theorem FormatRoundTrip.prt2PraPr2y (w : Width) (a : Reg) :
    FormatRoundTrip.Statement (.prt2PraPr2y w a) := rfl
theorem FormatRoundTrip.prt2PrzPr2a (w : Width) (a : Reg) :
    FormatRoundTrip.Statement (.prt2PrzPr2a w a) := rfl
theorem FormatRoundTrip.prt2PrzPr2y (w : Width) (a : Reg) :
    FormatRoundTrip.Statement (.prt2PrzPr2y w a) := rfl
theorem FormatRoundTrip.prt2PriPr2a (w : Width) (a : Reg) (imm : Word) :
    FormatRoundTrip.Statement (.prt2PriPr2a w a imm) := rfl
theorem FormatRoundTrip.prt2PriPr2y (w : Width) (a : Reg) (imm : Word) :
    FormatRoundTrip.Statement (.prt2PriPr2y w a imm) := rfl
theorem FormatRoundTrip.prt3PraPr3r (w : Width) (a : Reg) :
    FormatRoundTrip.Statement (.prt3PraPr3r w a) := rfl
theorem FormatRoundTrip.prt3PraPr3a (w : Width) (a : Reg) :
    FormatRoundTrip.Statement (.prt3PraPr3a w a) := rfl
theorem FormatRoundTrip.prt3PraPr3d (w : Width) (a : Reg) :
    FormatRoundTrip.Statement (.prt3PraPr3d w a) := rfl
theorem FormatRoundTrip.prt3PrzPr3r (w : Width) (a : Reg) :
    FormatRoundTrip.Statement (.prt3PrzPr3r w a) := rfl
theorem FormatRoundTrip.prt3PrzPr3a (w : Width) (a : Reg) :
    FormatRoundTrip.Statement (.prt3PrzPr3a w a) := rfl
theorem FormatRoundTrip.prt3PrzPr3d (w : Width) (a : Reg) :
    FormatRoundTrip.Statement (.prt3PrzPr3d w a) := rfl
theorem FormatRoundTrip.prt3PriPr3r (w : Width) (a : Reg) (imm : Word) :
    FormatRoundTrip.Statement (.prt3PriPr3r w a imm) := rfl
theorem FormatRoundTrip.prt3PriPr3a (w : Width) (a : Reg) (imm : Word) :
    FormatRoundTrip.Statement (.prt3PriPr3a w a imm) := rfl
theorem FormatRoundTrip.prt3PriPr3d (w : Width) (a : Reg) (imm : Word) :
    FormatRoundTrip.Statement (.prt3PriPr3d w a imm) := rfl
theorem FormatRoundTrip.prtnrPraPrtaNry (w : Width) :
    FormatRoundTrip.Statement (.prtnrPraPrtaNry w) := rfl
theorem FormatRoundTrip.prtnrPraPrtaNra (w : Width) :
    FormatRoundTrip.Statement (.prtnrPraPrtaNra w) := rfl
theorem FormatRoundTrip.prtnrPraPrtdNry (w : Width) :
    FormatRoundTrip.Statement (.prtnrPraPrtdNry w) := rfl
theorem FormatRoundTrip.prtnrPraPrtdNra (w : Width) :
    FormatRoundTrip.Statement (.prtnrPraPrtdNra w) := rfl
theorem FormatRoundTrip.prtnrPrzPrtaNry (w : Width) :
    FormatRoundTrip.Statement (.prtnrPrzPrtaNry w) := rfl
theorem FormatRoundTrip.prtnrPrzPrtaNra (w : Width) :
    FormatRoundTrip.Statement (.prtnrPrzPrtaNra w) := rfl
theorem FormatRoundTrip.prtnrPrzPrtdNry (w : Width) :
    FormatRoundTrip.Statement (.prtnrPrzPrtdNry w) := rfl
theorem FormatRoundTrip.prtnrPrzPrtdNra (w : Width) :
    FormatRoundTrip.Statement (.prtnrPrzPrtdNra w) := rfl
theorem FormatRoundTrip.prtnrPriPrtaNry (w : Width) (imm : Word) :
    FormatRoundTrip.Statement (.prtnrPriPrtaNry w imm) := rfl
theorem FormatRoundTrip.prtnrPriPrtaNra (w : Width) (imm : Word) :
    FormatRoundTrip.Statement (.prtnrPriPrtaNra w imm) := rfl
theorem FormatRoundTrip.prtnrPriPrtdNry (w : Width) (imm : Word) :
    FormatRoundTrip.Statement (.prtnrPriPrtdNry w imm) := rfl
theorem FormatRoundTrip.prtnrPriPrtdNra (w : Width) (imm : Word) :
    FormatRoundTrip.Statement (.prtnrPriPrtdNra w imm) := rfl
theorem FormatRoundTrip.crcf (a : Reg) :
    FormatRoundTrip.Statement (.crcf a) := rfl
theorem FormatRoundTrip.crcr (a : Reg) :
    FormatRoundTrip.Statement (.crcr a) := rfl
theorem FormatRoundTrip.setstSonccz : FormatRoundTrip.Statement .setstSonccz := rfl
theorem FormatRoundTrip.setstSl : FormatRoundTrip.Statement .setstSl := rfl
theorem FormatRoundTrip.setstSf1 : FormatRoundTrip.Statement .setstSf1 := rfl
theorem FormatRoundTrip.setstSf2 : FormatRoundTrip.Statement .setstSf2 := rfl
theorem FormatRoundTrip.setstSf3 : FormatRoundTrip.Statement .setstSf3 := rfl
theorem FormatRoundTrip.rststRonccz : FormatRoundTrip.Statement .rststRonccz := rfl
theorem FormatRoundTrip.rststRl : FormatRoundTrip.Statement .rststRl := rfl
theorem FormatRoundTrip.rststRf1 : FormatRoundTrip.Statement .rststRf1 := rfl
theorem FormatRoundTrip.rststRf2 : FormatRoundTrip.Statement .rststRf2 := rfl
theorem FormatRoundTrip.rststRf3 : FormatRoundTrip.Statement .rststRf3 := rfl
theorem FormatRoundTrip.svstr (w : Width) (a : Reg) :
    FormatRoundTrip.Statement (.svstr w a) := rfl
theorem FormatRoundTrip.svstnrNry (w : Width) :
    FormatRoundTrip.Statement (.svstnrNry w) := rfl
theorem FormatRoundTrip.svstnrNra (w : Width) :
    FormatRoundTrip.Statement (.svstnrNra w) := rfl
theorem FormatRoundTrip.tststTnoz : FormatRoundTrip.Statement .tststTnoz := rfl
theorem FormatRoundTrip.tststTno : FormatRoundTrip.Statement .tststTno := rfl
theorem FormatRoundTrip.tststTz : FormatRoundTrip.Statement .tststTz := rfl
theorem FormatRoundTrip.tststTovr : FormatRoundTrip.Statement .tststTovr := rfl
theorem FormatRoundTrip.tststTlow : FormatRoundTrip.Statement .tststTlow := rfl
theorem FormatRoundTrip.tststTc : FormatRoundTrip.Statement .tststTc := rfl
theorem FormatRoundTrip.tststTzc : FormatRoundTrip.Statement .tststTzc := rfl
theorem FormatRoundTrip.tststTn : FormatRoundTrip.Statement .tststTn := rfl
theorem FormatRoundTrip.tststTl : FormatRoundTrip.Statement .tststTl := rfl
theorem FormatRoundTrip.tststTf1 : FormatRoundTrip.Statement .tststTf1 := rfl
theorem FormatRoundTrip.tststTf2 : FormatRoundTrip.Statement .tststTf2 := rfl
theorem FormatRoundTrip.tststTf3 : FormatRoundTrip.Statement .tststTf3 := rfl
theorem FormatRoundTrip.nop : FormatRoundTrip.Statement .nop := rfl

end Sys2Proof.Laws
end

