-- ==== Sys2Proof/Tests/Slice0.lean ====
section
/-! SUPPORT. Tests: ill-formed terms, the test vectors of spec/95_test_vectors.md run through `step` (so
decoded too), and a witness for the hypotheses of every statement that has some. -/

namespace Sys2Proof.Tests

open Sys2Proof.Machine Sys2Proof.Claims

noncomputable section

/-! ## Well-formedness: R233 and R316, at and beyond the boundary -/

theorem test_bit_number_fits :
    [Instr.bor1Setnr .byte 7 1, .bor2A2nr .byte 0 1, .bonrSetna .byte 7, .bor1Setnr .word 15 1].all
      Instr.wellFormed = true := by decide

theorem test_bit_number_too_high_refused :
    [Instr.bor1Setnr .byte 8 1, .bor2A2nr .byte 15 1, .bonrSetna .byte 8, .bonrLd2ny .byte 15].any
      Instr.wellFormed = false := by decide

theorem test_prt3_same_source_refused :
    (Instr.prt3PraPr3a .word 1).wellFormed = false ∧ (Instr.prt3PraPr3d .word 1).wellFormed = true := by
  decide

theorem test_prtnr_same_source_refused :
    (Instr.prtnrPraPrtaNry .word).wellFormed = false ∧ (Instr.prtnrPraPrtaNra .byte).wellFormed = false ∧
      (Instr.prtnrPriPrtaNra .byte 0).wellFormed = true := by
  decide

/-! ## Test vectors of spec/95_test_vectors.md -/

/-- A row of a table of the spec: the words, the register-file address the row names, `x[a]`, Акк, Рг.D
and РгС before; `x[a]`, Акк, РгС after, and Y where the spec fixes all sixteen lines. -/
structure Vec where
  words : List Word
  a : Reg
  x : Word
  acc : Word
  d : Word
  st : BitVec 8
  x' : Word
  acc' : Word
  st' : BitVec 8
  y : Option Word

/-- The state after reset with a program and one register-file entry, Акк, Рг.D and РгС set; every other
entry holds a value no row uses. -/
def start (words : List Word) (a : Reg) (x acc d : Word) (st : BitVec 8) : State :=
  { State.reset with
    x := (Vector.replicate 32 0x9E37).set a.toNat x a.isLt
    acc := acc, d := d, st := Status.ofByte .sourceOrder st, prog := words }

/-- One step gives what the row says, past the row's words, with Рг.D kept. -/
def Vec.holds (v : Vec) : Bool :=
  match step (start v.words v.a v.x v.acc v.d v.st) with
  | .next t =>
    decide (t.reg v.a = v.x') && decide (t.acc = v.acc') && decide (statusByte t.st = v.st')
      && decide (t.d = v.d) && decide (t.ip = v.words.length)
      && (match v.y with
        | some y => decide (t.y = y)
        | none => true)
  | .fault _ | .refused _ => false

/-- Section 1.1: the source's worked example of rotate and merge, in each form. -/
def mergeExampleVectors : List Vec :=
  [⟨[0xA8E0, 0x0F0F], 0, 0x0000, 0xAAAA, 0x3156, 0b00000000, 0x0000, 0xA5A3, 0b00001000, (some 0xA5A3)⟩,
   ⟨[0xA903], 3, 0x0F0F, 0xAAAA, 0x3156, 0b00000000, 0x0F0F, 0xA5A3, 0b00001000, (some 0xA5A3)⟩,
   ⟨[0xA923, 0x0F0F], 3, 0xAAAA, 0x0000, 0x3156, 0b00000000, 0xA5A3, 0x0000, 0b00001000, (some 0xA5A3)⟩,
   ⟨[0xA943], 3, 0xAAAA, 0x0F0F, 0x3156, 0b00000000, 0xA5A3, 0x0F0F, 0b00001000, (some 0xA5A3)⟩,
   ⟨[0xA983, 0x0F0F], 3, 0xAAAA, 0x3156, 0x0000, 0b00000000, 0xA5A3, 0x3156, 0b00001000, (some 0xA5A3)⟩,
   ⟨[0xA9C3, 0x0F0F], 3, 0x3156, 0xAAAA, 0x0000, 0b00000000, 0x3156, 0xA5A3, 0b00001000, (some 0xA5A3)⟩]

theorem test_merge_example_vectors : mergeExampleVectors.all Vec.holds = true := by decide

/-- Section 2.1: single-operand instructions. -/
def singleVectors : List Vec :=
  [⟨[0xD801], 1, 0x8000, 0x0000, 0x0000, 0b00000000, 0x8000, 0x8000, 0b00001000, (some 0x8000)⟩,
   ⟨[0xD841], 1, 0x0000, 0x0000, 0x0000, 0b00000000, 0x0000, 0x0000, 0b00000001, (some 0x0000)⟩,
   ⟨[0xD902], 2, 0x0000, 0x0000, 0x0000, 0b00001111, 0x0000, 0x0000, 0b00000001, (some 0x0000)⟩,
   ⟨[0xD8E3, 0x1234], 3, 0x0000, 0x0000, 0x0000, 0b00000000, 0x1234, 0x0000, 0b00000000, (some 0x1234)⟩,
   ⟨[0xD884], 4, 0x0000, 0xBEEF, 0x0000, 0b00000110, 0xBEEF, 0xBEEF, 0b00001000, (some 0xBEEF)⟩,
   ⟨[0xD8C4], 4, 0x0000, 0x0000, 0x0001, 0b00000000, 0x0001, 0x0000, 0b00000000, (some 0x0001)⟩,
   ⟨[0xD925], 5, 0x0000, 0x0000, 0x12F0, 0b00000000, 0x00F0, 0x0000, 0b00000000, (some 0x00F0)⟩,
   ⟨[0xD945], 5, 0x0000, 0x0000, 0x12F0, 0b00000000, 0xFFF0, 0x0000, 0b00001000, (some 0xFFF0)⟩,
   ⟨[0xD945], 5, 0x0000, 0x0000, 0xFF7F, 0b00000000, 0x007F, 0x0000, 0b00000000, (some 0x007F)⟩,
   ⟨[0xD866], 6, 0x00A5, 0x0000, 0x0000, 0b00000000, 0x00A5, 0x0000, 0b10100101, (some 0x00A5)⟩,
   ⟨[0xDA81], 1, 0x0000, 0x0000, 0x0000, 0b00000000, 0xFFFF, 0x0000, 0b00001000, (some 0xFFFF)⟩,
   ⟨[0xDB61], 1, 0xFFFF, 0x0000, 0x0000, 0b00000110, 0x0000, 0x0000, 0b00000001, (some 0x0000)⟩,
   ⟨[0xDD61], 1, 0xFFFF, 0x0000, 0x0000, 0b00000000, 0x0000, 0x0000, 0b00000011, (some 0x0000)⟩,
   ⟨[0xDD61], 1, 0x7FFF, 0x0000, 0x0000, 0b00000000, 0x8000, 0x0000, 0b00001100, (some 0x8000)⟩,
   ⟨[0xDD61], 1, 0x0000, 0x0000, 0x0000, 0b00000010, 0x0001, 0x0000, 0b00000000, (some 0x0001)⟩,
   ⟨[0xDF61], 1, 0x0001, 0x0000, 0x0000, 0b00000000, 0xFFFF, 0x0000, 0b00001000, (some 0xFFFF)⟩,
   ⟨[0xDF61], 1, 0x0000, 0x0000, 0x0000, 0b00000000, 0x0000, 0x0000, 0b00000011, (some 0x0000)⟩,
   ⟨[0xDF61], 1, 0x8000, 0x0000, 0x0000, 0b00000000, 0x8000, 0x0000, 0b00001100, (some 0x8000)⟩,
   ⟨[0xDE01], 1, 0xFFFF, 0x0000, 0x0000, 0b00000000, 0xFFFF, 0x0001, 0b00000000, (some 0x0001)⟩,
   ⟨[0xF880], 0, 0x0000, 0x4321, 0x0000, 0b00000000, 0x0000, 0x4321, 0b00000000, (some 0x4321)⟩,
   ⟨[0xF8C1], 0, 0x0000, 0x0000, 0x8001, 0b00000000, 0x0000, 0x8001, 0b00001000, (some 0x8001)⟩,
   ⟨[0xF901], 0, 0x0000, 0x0000, 0x0000, 0b00000000, 0x0000, 0x0000, 0b00000001, (some 0x0000)⟩,
   ⟨[0xF8E1, 0xFFFF], 0, 0x0000, 0x0000, 0x0000, 0b00000000, 0x0000, 0xFFFF, 0b00001000, (some 0xFFFF)⟩,
   ⟨[0xF8C4], 0, 0x0000, 0x0000, 0x00A5, 0b00000000, 0x0000, 0x0000, 0b10100101, (some 0x00A5)⟩,
   ⟨[0xF8E5, 0x00F0], 0, 0x0000, 0x0000, 0x0000, 0b00001111, 0x0000, 0x00F0, 0b11110000, (some 0x00F0)⟩,
   ⟨[0x78E4, 0x00FF], 0, 0x0000, 0x0000, 0x0000, 0b00000000, 0x0000, 0x0000, 0b00001111, none⟩,
   ⟨[0xFB21], 0, 0x0000, 0x0000, 0xAB0F, 0b00000000, 0x0000, 0xFFF0, 0b00001000, (some 0xFFF0)⟩,
   ⟨[0xFF41], 0, 0x0000, 0x0000, 0x0080, 0b00000000, 0x0000, 0x0080, 0b00000000, (some 0x0080)⟩,
   ⟨[0x7C81], 0, 0x0000, 0x12FF, 0x0000, 0b00000000, 0x0000, 0x1200, 0b00000011, none⟩,
   ⟨[0x7C81], 0, 0x0000, 0x127F, 0x0000, 0b00000000, 0x0000, 0x1280, 0b00001100, none⟩,
   ⟨[0x5801], 1, 0xAA80, 0x5555, 0x0000, 0b00000000, 0xAA80, 0x5580, 0b00001000, none⟩,
   ⟨[0x5F61], 1, 0xAA80, 0x0000, 0x0000, 0b00000000, 0xAA80, 0x0000, 0b00001100, none⟩]

theorem test_single_vectors : singleVectors.all Vec.holds = true := by decide

/-- Section 2.2: two-operand instructions. -/
def twoOperandVectors : List Vec :=
  [⟨[0x8081], 1, 0x0001, 0x7FFF, 0x0000, 0b00000000, 0x0001, 0x8000, 0b00001100, (some 0x8000)⟩,
   ⟨[0x8081], 1, 0x0001, 0xFFFF, 0x0000, 0b00000000, 0x0001, 0x0000, 0b00000011, (some 0x0000)⟩,
   ⟨[0x8081], 1, 0x8000, 0x8000, 0x0000, 0b00000000, 0x8000, 0x0000, 0b00000111, (some 0x0000)⟩,
   ⟨[0x80A1], 1, 0x0001, 0x0001, 0x0000, 0b00000010, 0x0001, 0x0003, 0b00000000, (some 0x0003)⟩,
   ⟨[0x80A1], 1, 0x0000, 0xFFFF, 0x0000, 0b00000010, 0x0000, 0x0000, 0b00000011, (some 0x0000)⟩,
   ⟨[0x8001], 1, 0x0001, 0x0000, 0x0000, 0b00000000, 0x0001, 0xFFFF, 0b00001000, (some 0xFFFF)⟩,
   ⟨[0x8001], 1, 0x0005, 0x0005, 0x0000, 0b00000000, 0x0005, 0x0000, 0b00000011, (some 0x0000)⟩,
   ⟨[0x8041], 1, 0x8000, 0x0001, 0x0000, 0b00000000, 0x8000, 0x7FFF, 0b00000110, (some 0x7FFF)⟩,
   ⟨[0x8041], 1, 0x0002, 0x0003, 0x0000, 0b00000000, 0x0002, 0xFFFF, 0b00001000, (some 0xFFFF)⟩,
   ⟨[0x8021], 1, 0x0005, 0x0005, 0x0000, 0b00000000, 0x0005, 0xFFFF, 0b00001000, (some 0xFFFF)⟩,
   ⟨[0x8021], 1, 0x0005, 0x0005, 0x0000, 0b00000010, 0x0005, 0x0000, 0b00000011, (some 0x0000)⟩,
   ⟨[0x8061], 1, 0x0001, 0x0001, 0x0000, 0b00000000, 0x0001, 0xFFFF, 0b00001000, (some 0xFFFF)⟩,
   ⟨[0x8061], 1, 0x0003, 0x0001, 0x0000, 0b00000010, 0x0003, 0x0002, 0b00000010, (some 0x0002)⟩,
   ⟨[0x90C1], 1, 0x0F0F, 0x00FF, 0x0000, 0b00000110, 0x0F0F, 0x00FF, 0b00000000, (some 0x000F)⟩,
   ⟨[0x90E1], 1, 0x0F0F, 0x00FF, 0x0000, 0b00000110, 0x0F0F, 0x00FF, 0b00001000, (some 0xFFF0)⟩,
   ⟨[0x9101], 1, 0x0F0F, 0x00FF, 0x0000, 0b00000110, 0x0F0F, 0x00FF, 0b00000000, (some 0x0FF0)⟩,
   ⟨[0x9121], 1, 0x0F0F, 0x00FF, 0x0000, 0b00000110, 0x0F0F, 0x00FF, 0b00001000, (some 0xF000)⟩,
   ⟨[0x9141], 1, 0x0F0F, 0x00FF, 0x0000, 0b00000110, 0x0F0F, 0x00FF, 0b00000000, (some 0x0FFF)⟩,
   ⟨[0x9161], 1, 0x0F0F, 0x00FF, 0x0000, 0b00000110, 0x0F0F, 0x00FF, 0b00001000, (some 0xF00F)⟩,
   ⟨[0x80C1], 1, 0xFF00, 0x00FF, 0x0000, 0b00000000, 0xFF00, 0x0000, 0b00000001, (some 0x0000)⟩,
   ⟨[0x8481, 0x1000], 1, 0x0234, 0x0000, 0x0000, 0b00000000, 0x0234, 0x1234, 0b00000000, (some 0x1234)⟩,
   ⟨[0x8641], 1, 0x0001, 0x0000, 0x0010, 0b00000000, 0x0001, 0x000F, 0b00000010, (some 0x000F)⟩,
   ⟨[0x9941], 1, 0x0001, 0x8000, 0x0000, 0b00000000, 0x8001, 0x8000, 0b00001000, (some 0x8001)⟩,
   ⟨[0x9401, 0x0005], 1, 0x0005, 0x0000, 0x0000, 0b00000000, 0x0005, 0x0000, 0b00000011, (some 0x0000)⟩,
   ⟨[0x9701], 1, 0xFFFF, 0x0000, 0xFFFF, 0b00000000, 0xFFFF, 0x0000, 0b00000001, (some 0x0000)⟩,
   ⟨[0x9C81, 0x0001], 1, 0xFFFF, 0x0000, 0x0000, 0b00000000, 0x0000, 0x0000, 0b00000011, (some 0x0000)⟩,
   ⟨[0x9E81], 1, 0x1010, 0x0000, 0x0101, 0b00000000, 0x1111, 0x0000, 0b00000000, (some 0x1111)⟩,
   ⟨[0xC287], 7, 0x0000, 0x0002, 0x0003, 0b00000000, 0x0005, 0x0002, 0b00000000, (some 0x0005)⟩,
   ⟨[0xC447, 0x0001], 7, 0x0000, 0x0000, 0x0000, 0b00000000, 0xFFFF, 0x0000, 0b00001000, (some 0xFFFF)⟩,
   ⟨[0xCAC7, 0x0FF0], 7, 0x0000, 0x0000, 0xABCD, 0b00000000, 0x0BC0, 0x0000, 0b00000000, (some 0x0BC0)⟩,
   ⟨[0xE281], 0, 0x0000, 0x0001, 0x0001, 0b00000000, 0x0000, 0x0002, 0b00000000, (some 0x0002)⟩,
   ⟨[0xE200], 0, 0x0000, 0x0001, 0x0002, 0b00000000, 0x0000, 0x0001, 0b00001000, (some 0xFFFF)⟩,
   ⟨[0xE505, 0x00FF], 0, 0x0000, 0x0055, 0x0000, 0b00000000, 0x0000, 0x00AA, 0b10101010, (some 0x00AA)⟩,
   ⟨[0xEB44, 0x0003], 0, 0x0000, 0x0000, 0x0030, 0b00000000, 0x0000, 0x0000, 0b00110011, (some 0x0033)⟩,
   ⟨[0x0081], 1, 0x0001, 0x7FFF, 0x0000, 0b00000000, 0x0001, 0x7F00, 0b00000011, none⟩,
   ⟨[0x0081], 1, 0x0001, 0x127F, 0x0000, 0b00000000, 0x0001, 0x1280, 0b00001100, none⟩,
   ⟨[0x0041], 1, 0x5500, 0xFF01, 0x0000, 0b00000000, 0x5500, 0xFFFF, 0b00001000, none⟩]

theorem test_two_operand_vectors : twoOperandVectors.all Vec.holds = true := by decide

/-- Section 2.3: single-bit shifts. -/
def shiftVectors : List Vec :=
  [⟨[0xCC01], 1, 0xC001, 0x0000, 0x0000, 0b00000000, 0x8002, 0x0000, 0b00011000, (some 0x8002)⟩,
   ⟨[0xCC01], 1, 0x8000, 0x0000, 0x0000, 0b00000000, 0x0000, 0x0000, 0b00010001, (some 0x0000)⟩,
   ⟨[0xCC21], 1, 0x0000, 0x0000, 0x0000, 0b00000000, 0x0001, 0x0000, 0b00000000, (some 0x0001)⟩,
   ⟨[0xCC41], 1, 0x8000, 0x0000, 0x0000, 0b00010000, 0x0001, 0x0000, 0b00010000, (some 0x0001)⟩,
   ⟨[0xCC41], 1, 0x0001, 0x0000, 0x0000, 0b00000000, 0x0002, 0x0000, 0b00000000, (some 0x0002)⟩,
   ⟨[0xCC81], 1, 0x8003, 0x0000, 0x0000, 0b00000000, 0x4001, 0x0000, 0b00010000, (some 0x4001)⟩,
   ⟨[0xCC81], 1, 0x0001, 0x0000, 0x0000, 0b00000000, 0x0000, 0x0000, 0b00010001, (some 0x0000)⟩,
   ⟨[0xCCA1], 1, 0x0002, 0x0000, 0x0000, 0b00000000, 0x8001, 0x0000, 0b00001000, (some 0x8001)⟩,
   ⟨[0xCCC1], 1, 0x0001, 0x0000, 0x0000, 0b00000000, 0x0000, 0x0000, 0b00010001, (some 0x0000)⟩,
   ⟨[0xCCC1], 1, 0x0000, 0x0000, 0x0000, 0b00010000, 0x8000, 0x0000, 0b00001000, (some 0x8000)⟩,
   ⟨[0xCCE1], 1, 0x0000, 0x0000, 0x0000, 0b00000010, 0x8000, 0x0000, 0b00001000, (some 0x8000)⟩,
   ⟨[0xCCE1], 1, 0xFFFF, 0x0000, 0x0000, 0b00000000, 0x7FFF, 0x0000, 0b00010000, (some 0x7FFF)⟩,
   ⟨[0xCD01], 1, 0x8000, 0x0000, 0x0000, 0b00001000, 0xC000, 0x0000, 0b00001000, (some 0xC000)⟩,
   ⟨[0xCD01], 1, 0x8000, 0x0000, 0x0000, 0b00001100, 0x4000, 0x0000, 0b00000000, (some 0x4000)⟩,
   ⟨[0xCD01], 1, 0x4000, 0x0000, 0x0000, 0b00000100, 0xA000, 0x0000, 0b00001000, (some 0xA000)⟩,
   ⟨[0xCE01], 1, 0x0000, 0x0000, 0x4000, 0b00000000, 0x8000, 0x0000, 0b00001000, (some 0x8000)⟩,
   ⟨[0xEC01], 0, 0x0000, 0x0001, 0x0000, 0b00000000, 0x0000, 0x0002, 0b00000000, (some 0x0002)⟩,
   ⟨[0xEC80], 0, 0x0000, 0x0001, 0x0000, 0b00000000, 0x0000, 0x0001, 0b00010001, (some 0x0000)⟩,
   ⟨[0xEEA1], 0, 0x0000, 0x0000, 0x0000, 0b00000000, 0x0000, 0x8000, 0b00001000, (some 0x8000)⟩,
   ⟨[0x4C01], 1, 0x1281, 0x0000, 0x0000, 0b00000000, 0x1202, 0x0000, 0b00010000, none⟩,
   ⟨[0x4CC1], 1, 0x1201, 0x0000, 0x0000, 0b00010000, 0x1280, 0x0000, 0b00011000, none⟩,
   ⟨[0x4C21], 1, 0xFF40, 0x0000, 0x0000, 0b00000000, 0xFF81, 0x0000, 0b00001000, none⟩]

theorem test_shift_vectors : shiftVectors.all Vec.holds = true := by decide

/-- Section 2.4: bit instructions. -/
def bitVectors : List Vec :=
  [⟨[0xEBA7], 7, 0x0003, 0x0000, 0x0000, 0b00000110, 0x0023, 0x0000, 0b00000000, (some 0x0023)⟩,
   ⟨[0xFFA7], 7, 0x0000, 0x0000, 0x0000, 0b00000000, 0x8000, 0x0000, 0b00001000, (some 0x8000)⟩,
   ⟨[0xE1C7], 7, 0x0001, 0x0000, 0x0000, 0b00000000, 0x0000, 0x0000, 0b00000001, (some 0x0000)⟩,
   ⟨[0xFFC7], 7, 0xFFFF, 0x0000, 0x0000, 0b00000000, 0x7FFF, 0x0000, 0b00000000, (some 0x7FFF)⟩,
   ⟨[0xE7E2], 2, 0x0008, 0x0000, 0x0000, 0b00000000, 0x0008, 0x0000, 0b00000000, (some 0x0008)⟩,
   ⟨[0xE7E2], 2, 0x0007, 0x0000, 0x0000, 0b00000000, 0x0007, 0x0000, 0b00000001, (some 0x0000)⟩,
   ⟨[0xFFE2], 2, 0x8000, 0x0000, 0x0000, 0b00000000, 0x8000, 0x0000, 0b00001000, (some 0x8000)⟩,
   ⟨[0xDF80], 0, 0x0000, 0x0000, 0x0000, 0b00000000, 0x8000, 0x0000, 0b00001000, (some 0x8000)⟩,
   ⟨[0xC180], 0, 0x0000, 0x0000, 0x0000, 0b00000000, 0x0001, 0x0000, 0b00000000, (some 0x0001)⟩,
   ⟨[0xC1A0], 0, 0x0000, 0x0000, 0x0000, 0b00000000, 0xFFFE, 0x0000, 0b00001000, (some 0xFFFE)⟩,
   ⟨[0xDFA0], 0, 0x0000, 0x0000, 0x0000, 0b00000000, 0x7FFF, 0x0000, 0b00000000, (some 0x7FFF)⟩,
   ⟨[0xC9C3], 3, 0x00F0, 0x0000, 0x0000, 0b00000000, 0x0100, 0x0000, 0b00000000, (some 0x0100)⟩,
   ⟨[0xC1C3], 3, 0xFFFF, 0x0000, 0x0000, 0b00000000, 0x0000, 0x0000, 0b00000011, (some 0x0000)⟩,
   ⟨[0xC1C3], 3, 0x7FFF, 0x0000, 0x0000, 0b00000000, 0x8000, 0x0000, 0b00001100, (some 0x8000)⟩,
   ⟨[0xDFC3], 3, 0x8000, 0x0000, 0x0000, 0b00000000, 0x0000, 0x0000, 0b00000111, (some 0x0000)⟩,
   ⟨[0xC1E3], 3, 0x0100, 0x0000, 0x0000, 0b00000000, 0x00FF, 0x0000, 0b00000010, (some 0x00FF)⟩,
   ⟨[0xC1E3], 3, 0x0000, 0x0000, 0x0000, 0b00000000, 0xFFFF, 0x0000, 0b00001000, (some 0xFFFF)⟩,
   ⟨[0xC1E3], 3, 0x8000, 0x0000, 0x0000, 0b00000000, 0x7FFF, 0x0000, 0b00000110, (some 0x7FFF)⟩,
   ⟨[0xCFE3], 3, 0x0080, 0x0000, 0x0000, 0b00000000, 0x0000, 0x0000, 0b00000011, (some 0x0000)⟩,
   ⟨[0xFF80], 0, 0x0000, 0x8000, 0x0000, 0b00000000, 0x0000, 0x8000, 0b00001000, (some 0x8000)⟩,
   ⟨[0xE180], 0, 0x0000, 0x8000, 0x0000, 0b00000000, 0x0000, 0x8000, 0b00000001, (some 0x0000)⟩,
   ⟨[0xE381], 0, 0x0000, 0x0003, 0x0000, 0b00000000, 0x0000, 0x0001, 0b00000000, (some 0x0001)⟩,
   ⟨[0xF182], 0, 0x0000, 0x0001, 0x0000, 0b00000000, 0x0000, 0x0101, 0b00000000, (some 0x0101)⟩,
   ⟨[0xE184], 0, 0x0000, 0xFFFF, 0x0000, 0b00000000, 0x0000, 0x0000, 0b00000011, (some 0x0000)⟩,
   ⟨[0xE185], 0, 0x0000, 0x0000, 0x0000, 0b00000000, 0x0000, 0xFFFF, 0b00001000, (some 0xFFFF)⟩,
   ⟨[0xE786], 0, 0x0000, 0x0000, 0x0000, 0b00000000, 0x0000, 0x0008, 0b00000000, (some 0x0008)⟩,
   ⟨[0xFF87], 0, 0x0000, 0x0000, 0x0000, 0b00000000, 0x0000, 0x7FFF, 0b00000000, (some 0x7FFF)⟩,
   ⟨[0xE190], 0, 0x0000, 0x0000, 0x0002, 0b00000000, 0x0000, 0x0000, 0b00000001, (some 0x0000)⟩,
   ⟨[0xE991], 0, 0x0000, 0x0000, 0x00FF, 0b00000000, 0x0000, 0x0000, 0b00000000, (some 0x00EF)⟩,
   ⟨[0xFF92], 0, 0x0000, 0x0000, 0x0001, 0b00000000, 0x0000, 0x0000, 0b00001000, (some 0x8001)⟩,
   ⟨[0xE394], 0, 0x0000, 0x0000, 0x0005, 0b00000000, 0x0000, 0x0000, 0b00000000, (some 0x0007)⟩,
   ⟨[0xE595], 0, 0x0000, 0x0000, 0x0004, 0b00000000, 0x0000, 0x0000, 0b00000011, (some 0x0000)⟩,
   ⟨[0xF396], 0, 0x0000, 0x0000, 0x0000, 0b00000000, 0x0000, 0x0000, 0b00000000, (some 0x0200)⟩,
   ⟨[0xF397], 0, 0x0000, 0x0000, 0x0000, 0b00000000, 0x0000, 0x0000, 0b00001000, (some 0xFDFF)⟩,
   ⟨[0x6FA1], 1, 0x1200, 0x0000, 0x0000, 0b00000000, 0x1280, 0x0000, 0b00001000, none⟩,
   ⟨[0x4FC1], 1, 0x1280, 0x0000, 0x0000, 0b00000000, 0x1200, 0x0000, 0b00000111, none⟩]

theorem test_bit_vectors : bitVectors.all Vec.holds = true := by decide

/-- Section 2.5: rotates. -/
def rotateVectors : List Vec :=
  [⟨[0x8982], 2, 0x1234, 0x0000, 0x0000, 0b00000110, 0x1234, 0x2341, 0b00000000, (some 0x2341)⟩,
   ⟨[0x83C2], 2, 0x8001, 0x0000, 0x0000, 0b00000000, 0x8001, 0x0000, 0b00000000, (some 0x0003)⟩,
   ⟨[0x9FE2], 2, 0x0001, 0x0000, 0x0000, 0b00000000, 0x8000, 0x0000, 0b00001000, (some 0x8000)⟩,
   ⟨[0x81E2], 2, 0x8000, 0x0000, 0x0000, 0b00000000, 0x8000, 0x0000, 0b00001000, (some 0x8000)⟩,
   ⟨[0xB005], 5, 0x0000, 0x12AB, 0x0000, 0b00000000, 0xAB12, 0x12AB, 0b00001000, (some 0xAB12)⟩,
   ⟨[0xA025], 5, 0x0000, 0x0000, 0x0000, 0b00000000, 0x0000, 0x0000, 0b00000001, (some 0x0000)⟩,
   ⟨[0xE598], 0, 0x0000, 0x0000, 0x4000, 0b00000000, 0x0000, 0x0000, 0b00000000, (some 0x0001)⟩,
   ⟨[0xF999], 0, 0x0000, 0x0000, 0x000F, 0b00000000, 0x0000, 0xF000, 0b00001000, (some 0xF000)⟩,
   ⟨[0xE79C], 0, 0x0000, 0x2000, 0x0000, 0b00000000, 0x0000, 0x2000, 0b00000000, (some 0x0001)⟩,
   ⟨[0xE99D], 0, 0x0000, 0xF00F, 0x0000, 0b00000000, 0x0000, 0x00FF, 0b00000000, (some 0x00FF)⟩,
   ⟨[0xF99D], 0, 0x0000, 0x00FF, 0x0000, 0b00000000, 0x0000, 0xF00F, 0b00001000, (some 0xF00F)⟩,
   ⟨[0x699D], 0, 0x0000, 0x12A5, 0x0000, 0b00000000, 0x0000, 0x125A, 0b00000000, none⟩,
   ⟨[0x639D], 0, 0x0000, 0x0081, 0x0000, 0b00000000, 0x0000, 0x0003, 0b00000000, none⟩,
   ⟨[0x739D], 0, 0x0000, 0x0081, 0x0000, 0b00000000, 0x0000, 0x0003, 0b00000000, none⟩,
   ⟨[0x0F82], 2, 0xFF01, 0x3300, 0x0000, 0b00000000, 0xFF01, 0x3380, 0b00001000, none⟩]

theorem test_rotate_vectors : rotateVectors.all Vec.holds = true := by decide

/-- Section 2.6: rotate and compare. -/
def compareVectors : List Vec :=
  [⟨[0xA840, 0xFF00], 0, 0x0000, 0x1234, 0x0123, 0b00000110, 0x0000, 0x1234, 0b00000000, (some 0x0004)⟩,
   ⟨[0xA840, 0xFF0F], 0, 0x0000, 0x1234, 0x0123, 0b00000000, 0x0000, 0x1234, 0b00000001, (some 0x0000)⟩,
   ⟨[0xA061, 0x0000], 1, 0x0000, 0x0000, 0x8000, 0b00000000, 0x0000, 0x0000, 0b00001000, (some 0x8000)⟩,
   ⟨[0xB081], 1, 0xAB00, 0x0000, 0x00AB, 0b00000000, 0xAB00, 0x0000, 0b00000001, (some 0x0000)⟩,
   ⟨[0xA2A1, 0xFFFE], 1, 0x8000, 0x0001, 0x0000, 0b00000000, 0x8000, 0x0001, 0b00000001, (some 0x0000)⟩,
   ⟨[0xA0A1, 0xFFFF], 1, 0xEDCB, 0x1234, 0x0000, 0b00000000, 0xEDCB, 0x1234, 0b00000001, (some 0x0000)⟩,
   ⟨[0x28A3, 0x0000], 3, 0xFF21, 0x0012, 0x0000, 0b00000000, 0xFF21, 0x0012, 0b00000001, none⟩]

theorem test_compare_vectors : compareVectors.all Vec.holds = true := by decide

/-- Section 2.7: prioritize. -/
def prioritizeVectors : List Vec :=
  [⟨[0xD4E2], 2, 0x0C00, 0x0F00, 0x0000, 0b00000110, 0x0C00, 0x0F00, 0b00000000, (some 0x0007)⟩,
   ⟨[0xD0E2], 2, 0x0C00, 0x0F00, 0x0000, 0b00000000, 0x0C00, 0x0007, 0b00000000, (some 0x0007)⟩,
   ⟨[0xD722], 2, 0x0000, 0x0000, 0x8000, 0b00000000, 0x0001, 0x0000, 0b00000000, (some 0x0001)⟩,
   ⟨[0xD722], 2, 0x8000, 0x0000, 0x8000, 0b00000000, 0x0000, 0x0000, 0b00000001, (some 0x0000)⟩,
   ⟨[0xD406], 6, 0x0010, 0x0000, 0x0000, 0b00000000, 0x0010, 0x000C, 0b00000000, (some 0x000C)⟩,
   ⟨[0xD006], 6, 0x8001, 0xFFF0, 0x0000, 0b00000000, 0x8001, 0x0010, 0b00000000, (some 0x0010)⟩,
   ⟨[0xD646, 0xFF00], 6, 0x8001, 0x0000, 0x0000, 0b00000000, 0x8001, 0x0000, 0b00000000, (some 0x0010)⟩,
   ⟨[0xD466], 6, 0xFFFF, 0x0000, 0x0000, 0b00000000, 0x0001, 0x0000, 0b00000000, (some 0x0001)⟩,
   ⟨[0xD686, 0x8000], 6, 0x0000, 0xC000, 0x0000, 0b00000000, 0x0002, 0xC000, 0b00000000, (some 0x0002)⟩,
   ⟨[0xD0C6], 6, 0x0000, 0x00F0, 0x00FF, 0b00000000, 0x000D, 0x00F0, 0b00000000, (some 0x000D)⟩,
   ⟨[0xF481], 0, 0x0000, 0x0000, 0x0000, 0b00000000, 0x0000, 0x0000, 0b00000001, (some 0x0000)⟩,
   ⟨[0xF481], 0, 0x0000, 0x0001, 0x0000, 0b00000000, 0x0000, 0x0010, 0b00000000, (some 0x0010)⟩,
   ⟨[0xF0C0], 0, 0x0000, 0x1000, 0x1234, 0b00000000, 0x0000, 0x1000, 0b00000000, (some 0x0007)⟩,
   ⟨[0xF6C1, 0x0000], 0, 0x0000, 0x0000, 0x8000, 0b00000000, 0x0000, 0x0001, 0b00000000, (some 0x0001)⟩,
   ⟨[0x5406], 6, 0xFF01, 0x5500, 0x0000, 0b00000000, 0xFF01, 0x5508, 0b00000000, none⟩,
   ⟨[0x5446], 6, 0x0080, 0x0000, 0x0000, 0b00000000, 0x0080, 0x0000, 0b00000000, none⟩]

theorem test_prioritize_vectors : prioritizeVectors.all Vec.holds = true := by decide

/-- Section 2.8: CRC steps. -/
def crcVectors : List Vec :=
  [⟨[0xCC61], 1, 0x0000, 0x1021, 0x0000, 0b00010000, 0x1021, 0x1021, 0b00000000, (some 0x1021)⟩,
   ⟨[0xCC61], 1, 0xFFFF, 0x1021, 0x0000, 0b00010000, 0xFFFE, 0x1021, 0b00011000, (some 0xFFFE)⟩,
   ⟨[0xCC61], 1, 0x8000, 0x1021, 0x0000, 0b00000000, 0x1021, 0x1021, 0b00010000, (some 0x1021)⟩,
   ⟨[0xCC61], 1, 0x4000, 0x1021, 0x0000, 0b00000110, 0x8000, 0x1021, 0b00001000, (some 0x8000)⟩,
   ⟨[0xCD21], 1, 0x0001, 0x8408, 0x0000, 0b00000000, 0x8408, 0x8408, 0b00011000, (some 0x8408)⟩,
   ⟨[0xCD21], 1, 0x0001, 0x8408, 0x0000, 0b00010000, 0x0000, 0x8408, 0b00010001, (some 0x0000)⟩,
   ⟨[0xCD21], 1, 0x0000, 0x8408, 0x0000, 0b00010000, 0x8408, 0x8408, 0b00001000, (some 0x8408)⟩,
   ⟨[0xCD21], 1, 0x8002, 0xA001, 0x0000, 0b00000000, 0x4001, 0xA001, 0b00000000, (some 0x4001)⟩]

theorem test_crc_vectors : crcVectors.all Vec.holds = true := by decide

/-- Section 2.9: status instructions, NOP. -/
def statusVectors : List Vec :=
  [⟨[0x7743], 0, 0x0000, 0x0000, 0x0000, 0b00000000, 0x0000, 0x0000, 0b00001111, (some 0xFFFF)⟩,
   ⟨[0x7745], 0, 0x0000, 0x0000, 0x0000, 0b00000000, 0x0000, 0x0000, 0b00010000, (some 0xFFFF)⟩,
   ⟨[0x7746], 0, 0x0000, 0x0000, 0x0000, 0b00000000, 0x0000, 0x0000, 0b00100000, (some 0xFFFF)⟩,
   ⟨[0x7749], 0, 0x0000, 0x0000, 0x0000, 0b00000000, 0x0000, 0x0000, 0b01000000, (some 0xFFFF)⟩,
   ⟨[0x774A], 0, 0x0000, 0x0000, 0x0000, 0b00000000, 0x0000, 0x0000, 0b10000000, (some 0xFFFF)⟩,
   ⟨[0x7543], 0, 0x0000, 0x0000, 0x0000, 0b11111111, 0x0000, 0x0000, 0b11110000, (some 0x0000)⟩,
   ⟨[0x7545], 0, 0x0000, 0x0000, 0x0000, 0b11111111, 0x0000, 0x0000, 0b11101111, (some 0x0000)⟩,
   ⟨[0x7546], 0, 0x0000, 0x0000, 0x0000, 0b11111111, 0x0000, 0x0000, 0b11011111, (some 0x0000)⟩,
   ⟨[0x7549], 0, 0x0000, 0x0000, 0x0000, 0b11111111, 0x0000, 0x0000, 0b10111111, (some 0x0000)⟩,
   ⟨[0x754A], 0, 0x0000, 0x0000, 0x0000, 0b11111111, 0x0000, 0x0000, 0b01111111, (some 0x0000)⟩,
   ⟨[0xCF49], 9, 0x0000, 0x0000, 0x0000, 0b00110010, 0x0032, 0x0000, 0b00110010, (some 0x0032)⟩,
   ⟨[0x4F49], 9, 0xAB00, 0x0000, 0x0000, 0b00110010, 0xAB32, 0x0000, 0b00110010, (some 0x0032)⟩,
   ⟨[0xEF41], 0, 0x0000, 0x0000, 0x0000, 0b00001111, 0x0000, 0x000F, 0b00001111, (some 0x000F)⟩,
   ⟨[0xEF40], 0, 0x0000, 0x0000, 0x0000, 0b11110000, 0x0000, 0x0000, 0b11110000, (some 0x00F0)⟩,
   ⟨[0x7140], 0, 0x2222, 0x1111, 0x0000, 0b10100101, 0x2222, 0x1111, 0b10100101, none⟩]

theorem test_status_vectors : statusVectors.all Vec.holds = true := by decide

/-- Section 2.9: РгС, and CT after TNOZ, TNO, TZ, TOVR, TLOW, TC, TZC, TN, TL, TF1, TF2, TF3. -/
def conditionVectors : List (BitVec 8 × List Bool) :=
  [(0b00000000, [false, false, false, false, false, false, true, false, false, false, false, false]),
   (0b00000001, [true, false, true, false, false, false, true, false, false, false, false, false]),
   (0b00000010, [false, false, false, false, false, true, false, false, false, false, false, false]),
   (0b00000011, [true, false, true, false, false, true, true, false, false, false, false, false]),
   (0b00000100, [true, true, false, true, false, false, true, false, false, false, false, false]),
   (0b00001000, [true, true, false, false, false, false, true, true, false, false, false, false]),
   (0b00001100, [false, false, false, true, false, false, true, true, false, false, false, false]),
   (0b00001101, [true, false, true, true, false, false, true, true, false, false, false, false]),
   (0b00010000, [false, false, false, false, false, false, true, false, true, false, false, false]),
   (0b00100000, [false, false, false, false, false, false, true, false, false, true, false, false]),
   (0b01000000, [false, false, false, false, false, false, true, false, false, false, true, false]),
   (0b10000000, [false, false, false, false, false, false, true, false, false, false, false, true]),
   (0b11111111, [true, false, true, true, false, true, true, true, true, true, true, true])]

/-- CT after one step at the word. -/
def ctAfter (st : BitVec 8) (word : Word) : Option Bool :=
  match step (start [word] 0 0 0 0 st) with
  | .next t => some t.ct
  | .fault _ | .refused _ => none

theorem test_condition_vectors :
    conditionVectors.all (fun p =>
      decide ([0x7340, 0x7342, 0x7344, 0x7346, 0x7348, 0x734A, 0x734C, 0x734E, 0x7350, 0x7352, 0x7354,
        0x7356].map (ctAfter p.1) = p.2.map some)) = true := by decide

/-- Section 2.10: the words that are no instruction. -/
theorem test_undecodable_words :
    [0xF140, 0x7141, 0x0200, 0x7341, 0x7358, 0x4C61, 0xE983, 0xD823, 0x6F44, 0xEC04, 0xEC60, 0x4D21].all
      (fun word => decide (decode [word] = .undecodable word)) = true := by decide

/-- Section 2.10: the words that are, as printed there. -/
theorem test_decodable_words :
    [(0x0000, Instr.tor1ToraaSubr .byte 0), (0xFFFF, .bor1Tstnr .word 15 31), (0x7140, .nop),
      (0xCC61, .crcf 1), (0xED9D, .rotnrRtaa .word 6), (0xEDBD, .bor1Setnr .word 6 29),
      (0xE981, .bonrRstna .word 4), (0xE284, .tonrTodaAddNrs .word), (0xCF41, .svstr .word 1),
      (0xD406, .prt2PrzPr2a .word 6), (0xD086, .prt3PraPr3a .word 6), (0x71A1, .bor1Setnr .byte 8 1)].all
      (fun p => decide (decode [p.1] = .ok p.2 [])) = true := by decide

/-- Sections 2.4, 2.7 and P6: the rows that are refused, and the end of a program. -/
theorem test_stops :
    step (start [0x71A1] 1 0x1200 0 0 0) = .refused .bitNumberAbove7 ∧
    step (start [0xD086] 6 0 0x00F0 0 0) = .refused .sameSource ∧
    step (start [0xF080] 0 0 0x1000 0 0) = .refused .sameSource ∧
    step (start [0x0200] 0 0 0 0 0) = .refused (.undecodableWord 0x0200) ∧
    step (start [0xD8E0] 0 0 0 0 0) = .refused .immediateOperandMissing ∧
    step (start [] 0 0 0 0 0) = .fault .endOfProgram := by
  refine ⟨rfl, rfl, rfl, rfl, rfl, rfl⟩

/-- The host loads Рг.D before the first step and not before the second (R24). -/
theorem test_host_move :
    (match step { start [0xD8C4, 0xD8C5] 0 0 0 0x1111 0 with dFeed := [some 0x2222, none] } with
      | .next t => some (t.reg 4, t.d, t.dFeed)
      | .fault _ | .refused _ => none) = some (0x2222, 0x2222, [none]) := by decide

/-- The word placed by `withFetchWord` is the one the next step runs, with a zero word as immediate. -/
theorem test_with_fetch_word :
    decode ((State.reset.withFetchWord 16 0xD8E3).stream) = .ok (.sorMoveSoir .word 3 0) [] := by decide

/-! ## Witnesses: a state and operands that meet the hypotheses of each statement that has some -/

/-- A state in which every register differs from the others. -/
def sample : State :=
  { start [0x8081, 0xD8E3, 0x1234, 0x7140] 1 0x80FF 0x7F01 0x8180 0b10101011 with
    dFeed := [none, some 0x5A5A] }

/-- `sample` with other high bytes and other outputs. -/
def sampleHigh : State :=
  { sample with
    x := (Vector.replicate 32 0x0037).set 1 0x01FF, acc := 0xFF01, d := 0x0080, y := 0xFFFF, ct := true }

theorem nth {α : Type} (l : List α) (i : Nat) (h : i < l.length) : l[i] ∈ l := List.getElem_mem h

theorem witness_EncodeOfDecode :
    decode [0x8081, 0x7140] = .ok (.tor1ToraaAdd .word 1) [0x7140] ∧
      decode [0xD8E3, 0x1234] = .ok (.sorMoveSoir .word 3 0x1234) [] := by decide

theorem witness_DecodeRejectsExactly :
    decode [0x0200, 0x7140] = .undecodable 0x0200 ∧ decode [0xD8E3] = .immediateMissing ∧
      encode (.sorMoveSoir .word 3 0x1234) = [0xD8E3, 0x1234] ∧ decode [] = .noWord := by decide

theorem witness_ImmediateFormsHaveTwoWords :
    (encode (.sorMoveSoir .word 3 1)).head? = (encode (.sorMoveSoir .word 3 2)).head? ∧
      takesImmediate (Instr.sorMoveSoir .word 3 1).format = true ∧
      takesImmediate (Instr.sorIncSorr .word 3).format = false := by decide

theorem witness_StepRunsDecodedInstruction :
    decode (sample.prog.drop sample.ip) = .ok (.tor1ToraaAdd .word 1) [0xD8E3, 0x1234, 0x7140] := by decide

theorem witness_StepFaultsExactlyAtTheEnd :
    ({ sample with ip := 4 }).prog.length ≤ ({ sample with ip := 4 }).ip ∧
      ¬ ({ sample with ip := 3 }).prog.length ≤ ({ sample with ip := 3 }).ip := by decide

theorem witness_StepIsRefusedExactlyWhen :
    step (start [0x7140, 0x7141] 0 0 0 0 0) ≠ .refused (.undecodableWord 0x7141) ∧
      step { start [0x7140, 0x7141] 0 0 0 0 0 with ip := 1 } = .refused (.undecodableWord 0x7141) := by
  refine ⟨fun h => ?_, rfl⟩
  cases (show step (start [0x7140, 0x7141] 0 0 0 0 0) = .next _ from rfl).symm.trans h

theorem witness_WellFormedInstructionsComplete :
    (Instr.bor1Setnr .byte 7 1).wellFormed = true ∧ (Instr.prt3PriPr3a .word 6 0).wellFormed = true := by
  decide

theorem witness_StepKeepsIndexInStream :
    ({ sample with ip := 1 }).InStream ∧ ∃ t, step { sample with ip := 1 } = .next t ∧ t.ip = 3 :=
  ⟨show 1 ≤ 4 by decide, _, rfl, rfl⟩

theorem witness_RunKeepsStreamAndDataRegister_RunIsAStraightLine :
    ∃ t, runSteps 3 sample = .next t ∧ t.ip = 4 ∧ t.d = 0x5A5A :=
  ⟨_, rfl, rfl, rfl⟩

theorem witness_ByteBitNumberAboveSevenRefused :
    7 < (8 : BitNo).toNat ∧ 7 < (15 : BitNo).toNat ∧
      ∃ row ∈ bitRows .byte 8 1 sample, row.src = 0x80FF ∧ row.dst = .reg 1 :=
  ⟨by decide, by decide, _, nth _ 0 (by decide), by decide, by decide⟩

theorem witness_MoveResult_ComplementResult_IncrementResult_NegateResult :
    (∃ row ∈ singleRows .byte 1 0xFFFF sample, row.src = 0x80FF ∧ row.dst = .acc ∧ row.words = 1) ∧
      ∃ row ∈ singleRows .word 1 0x8000 sample, row.src = 0x8000 ∧ row.dst = .reg 1 ∧ row.words = 2 :=
  ⟨⟨_, nth _ 0 (by decide), by decide, by decide, by decide⟩,
    ⟨_, nth _ 5 (by decide), by decide, by decide, by decide⟩⟩

theorem witness_AddResult_SubtractResult_SubtractWithCarryResult_LogicResult :
    (∃ row ∈ twoRows .word 1 0 sample, row.r = 0x80FF ∧ row.s = 0x7F01 ∧ row.dst = .acc) ∧
      ∃ row ∈ twoRows .byte 1 0xFF sample, row.r = 0x8180 ∧ row.s = 0xFF ∧ row.dst = .accSt :=
  ⟨⟨_, nth _ 0 (by decide), by decide, by decide, by decide⟩,
    ⟨_, nth _ 23 (by decide), by decide, by decide, by decide⟩⟩

theorem witness_AdditionChainsThroughCarry_SubtractionChainsThroughCarry : (0 : Reg) ≠ 31 := by decide

theorem witness_ShiftUpResult_ShiftDownResult_ShiftFlags :
    (∃ row ∈ shiftRows .byte 1 sample, row.src = 0x80FF ∧ row.dst = .reg 1) ∧
      ∃ row ∈ shiftRows .word 1 sample, row.src = 0x8180 ∧ row.dst = .acc :=
  ⟨⟨_, nth _ 0 (by decide), by decide, by decide⟩,
    ⟨_, nth _ 5 (by decide), by decide, by decide⟩⟩

theorem witness_bit_statements_bit_numbers :
    (0 : BitNo).toNat < Width.byte.bits ∧ (7 : BitNo).toNat < Width.byte.bits ∧
      (0 : BitNo).toNat < Width.word.bits ∧ (15 : BitNo).toNat < Width.word.bits := by decide

theorem witness_BitSetResetResult_BitTestResult :
    (∃ row ∈ setRows .byte 7 1 sample, row.src = 0x80FF ∧ row.dst = .reg 1) ∧
      (∃ row ∈ resetRows .word 15 1 sample, row.src = 0x7F01 ∧ row.dst = .acc) ∧
      ∃ row ∈ testRows .word 0 1 sample, row.src = 0x8180 ∧ row.dst = .y :=
  ⟨⟨_, nth _ 0 (by decide), by decide, by decide⟩,
    ⟨_, nth _ 1 (by decide), by decide, by decide⟩,
    ⟨_, nth _ 2 (by decide), by decide, by decide⟩⟩

theorem witness_BitLoadResult_BitAddSubtractResult :
    (∃ row ∈ loadRows .byte 7 1, row.dst = .reg 1) ∧
      (∃ row ∈ loadComplementRows .word 15 1, row.dst = .y) ∧
      (∃ row ∈ addPowerRows .word 15 1 sample, row.src = 0x80FF) ∧
      ∃ row ∈ subtractPowerRows .byte 7 1 sample, row.src = 0x8180 :=
  ⟨⟨_, nth _ 0 (by decide), by decide⟩,
    ⟨_, nth _ 2 (by decide), by decide⟩,
    ⟨_, nth _ 0 (by decide), by decide⟩,
    ⟨_, nth _ 2 (by decide), by decide⟩⟩

theorem witness_RotateResult :
    (∃ row ∈ rotateRows .byte 9 1 sample, row.src = 0x80FF ∧ row.dst = .acc) ∧
      ∃ row ∈ rotateRows .word 15 1 sample, row.src = 0x7F01 ∧ row.dst = .acc :=
  ⟨⟨_, nth _ 0 (by decide), by decide, by decide⟩,
    ⟨_, nth _ 8 (by decide), by decide, by decide⟩⟩

theorem witness_CompareResult :
    (∃ row ∈ compareRows .word 0 1 0xFFFF sample, row.u = 0x8180 ∧ row.mask = 0xFFFF) ∧
      ∃ row ∈ compareRows .byte 15 1 0 sample, row.u = 0x80FF ∧ row.mask = 0 :=
  ⟨⟨_, nth _ 0 (by decide), by decide, by decide⟩,
    ⟨_, nth _ 3 (by decide), by decide, by decide⟩⟩

theorem witness_MergeResult :
    (∃ row ∈ mergeRows .word 0 1 0x0F0F sample, row.u = 0x8180 ∧ row.dst = .acc) ∧
      ∃ row ∈ mergeRows .byte 15 1 0xFF sample, row.u = 0x7F01 ∧ row.dst = .reg 1 :=
  ⟨⟨_, nth _ 0 (by decide), by decide, by decide⟩,
    ⟨_, nth _ 4 (by decide), by decide, by decide⟩⟩

/-- Row 15 is PRT3 PRZ PR3A. Clause "no bit": byte mode with no 1. Clause "bit j": the top bit, and bit 0
alone. -/
theorem witness_PrioritizeResult :
    (∃ row ∈ priorityRows .byte 1 0 { sample with acc := 0xFF00 },
      ∀ j < 8, (row.r.getLsbD j && !row.mask.getLsbD j) = false) ∧
    (∃ row ∈ priorityRows .word 1 0 { sample with acc := 0x8000 },
      (row.r.getLsbD 15 && !row.mask.getLsbD 15) = true) ∧
    ∃ row ∈ priorityRows .byte 1 0 { sample with acc := 0x0001 },
      (row.r.getLsbD 0 && !row.mask.getLsbD 0) = true ∧
        ∀ m < 8, 0 < m → (row.r.getLsbD m && !row.mask.getLsbD m) = false :=
  ⟨⟨_, nth _ 15 (by decide), by decide⟩,
    ⟨_, nth _ 15 (by decide), by decide⟩,
    ⟨_, nth _ 15 (by decide), by decide, by decide⟩⟩

theorem witness_CrcStepsMirror :
    (start [] 1 0x8408 0x0811 0 0b00010000).reg 1 = ((start [] 1 0x1021 0x8810 0 0b00010000).reg 1).reverse ∧
      (0x0811 : Word) = (0x8810 : Word).reverse := by decide

theorem witness_StatusRoundTrip :
    ∃ t, exec (.svstnrNra .word) sample = .next t ∧ { sample with acc := 0x00AB }.acc = t.acc :=
  ⟨_, rfl, by decide⟩

theorem witness_TestConditions_TestBusAgreesWithTest :
    (∃ p ∈ testConditions sample.st, p.2 = true) ∧ ¬ 0b1011 < (11 : BitVec 4).toNat ∧
      0b1011 < (12 : BitVec 4).toNat :=
  ⟨⟨_, nth _ 0 (by decide), by decide⟩, by decide, by decide⟩

theorem witness_SaveStatusResult :
    ∃ p ∈ [(Instr.svstr .byte 1, Dst.reg 1), (.svstnrNry .byte, .y), (.svstnrNra .byte, .acc)],
      p.2 = .acc :=
  ⟨_, nth _ 2 (by decide), rfl⟩

theorem witness_ByteModeKeepsHighBytes :
    widthField (Instr.tor1TorarAdd .byte 1).format = some .byte ∧
      ∃ t, exec (.tor1TorarAdd .byte 1) sample = .next t ∧ t.reg 1 = 0x8000 :=
  ⟨by decide, _, rfl, by decide⟩

theorem witness_ByteModeIgnoresHighBytes :
    widthField (Instr.tor1TorarAdd .byte 1).format = some .byte ∧ LowBytesAgree sample sampleHigh ∧
      sample.acc ≠ sampleHigh.acc ∧ ∃ t, exec (.tor1TorarAdd .byte 1) sample = .next t :=
  ⟨by decide, ⟨by decide, by decide, by decide, rfl, rfl, rfl, rfl, rfl⟩, by decide, _, rfl⟩

theorem witness_UserFlagsWrittenOnlyBy_LinkWrittenOnlyBy :
    setsOrResetsStatus (Instr.rotnrRtaa .word 4).format = false ∧
      loadsStatus (Instr.rotnrRtaa .word 4).format = false ∧
      shiftsThroughLink (Instr.rotnrRtaa .word 4).format = false ∧
      keepsStatus (Instr.svstr .byte 1).format = true ∧
      (∃ t, exec (.rotnrRtaa .word 4) sample = .next t) ∧ ∃ t, exec (.svstr .byte 1) sample = .next t :=
  ⟨by decide, by decide, by decide, by decide, ⟨_, rfl⟩, ⟨_, rfl⟩⟩

theorem witness_RegistersWrittenOnlyBy :
    addressField (Instr.tor1TorarAdd .word 1).format ≠ some 2 ∧
      writesAccumulator (Instr.tor1TorarAdd .word 1).format = false ∧
      ∃ t, exec (.tor1TorarAdd .word 1) sample = .next t ∧ t.reg 1 = 0x0000 :=
  ⟨by decide, by decide, _, rfl, by decide⟩

theorem witness_AdderMeaning :
    (addW (1#1) 1#1 true).ovf = false ∧ (addW (0x7FFF#16) 0 true).ovf = true := by decide


end

end Sys2Proof.Tests
end

