-- ==== Sys2Proof/Tests/Configuration.lean ====
section
/-! SUPPORT. Tests: one step under the other value of each named parameter of R5, the code 1101 of ROTNR,
and witnesses for the statement about assignments of codes. -/

namespace Sys2Proof.Tests

open Sys2Proof.Machine Sys2Proof.Claims

noncomputable section

/-- What `f` reads in the state an instruction leads to under `p`, from `x[1]`, Акк, Рг.D and РгС. -/
def seen {α : Type} (f : State → α) (p : Params) (i : Instr) (x acc d : Word) (st : BitVec 8) :
    Option α :=
  match execWith p i (start [] 1 x acc d st) with
  | .next t => some (f t)
  | .fault _ | .refused _ => none

/-- R166: 0 - 1 borrows. -/
theorem test_sub_carry_borrow :
    seen (fun t => (t.acc, statusByte t.st)) { parameters with subCarry := .borrow }
      (.tor1ToraaSubr .word 1) 1 0 0 0 = some (0xFFFF, 0b00001010) := by decide

/-- R166: 5 - 5 + 1, as printed. -/
theorem test_subc_literal :
    seen (fun t => (t.acc, t.st.z, t.st.n)) { parameters with subcForm := .literal }
      (.tor1ToraaSubrc .word 1) 5 5 0 0b00000010 = some (0x0001, false, false) := by decide

/-- R23: N is bit 2 of a saved РгС. -/
theorem test_st_layout_swapped :
    seen (fun t => t.reg 1) { parameters with stLayout := .swapped }
      (.svstr .word 1) 0 0 0 0b00001000 = some 0x0004 := by decide

/-- R35: a byte-mode load of all eight bits. -/
theorem test_st_load_byte_all8 :
    seen (fun t => statusByte t.st) { parameters with stLoadByte := .all8 }
      (.sonrMoveSoiNrs .byte 0x00FF) 0 0 0 0 = some 0xFF := by decide

/-- R239: FFFF + 1 without a carry. -/
theorem test_bit_add_flags_ram_zero :
    seen (fun t => (t.reg 1, statusByte t.st)) { parameters with bitAddFlagsRam := .zero }
      (.bor2A2nr .word 0 1) 0xFFFF 0 0 0 = some (0x0000, 0b00000001) := by decide

/-- R233: bit 8 of a byte is bit 0. -/
theorem test_bit_byte_high_n_wrap :
    seen (fun t => t.reg 1) { parameters with bitByteHighN := .wrap }
      (.bor1Setnr .byte 8 1) 0x1200 0 0 0 = some 0x1201 := by decide

/-- R252, with the example of R249. -/
theorem test_bonr_d_writeback :
    seen (fun t => (t.d, t.y)) { parameters with bonrDWriteback := true }
      (.bonrRstnd .word 4) 0 0 0x00FF 0 = some (0x00EF, 0x00EF) := by decide

/-- R311: the number of the highest 1. -/
theorem test_priority_code_bit_index :
    seen (fun t => t.acc) { parameters with priorityCode := .bitIndex }
      (.prtnrPrzPrtdNra .word) 0 0 0x0010 0 = some 0x0004 := by decide

/-- R376: level 0 for a true condition. -/
theorem test_ct_polarity_true_is_0 :
    seen (fun t => t.ct) { parameters with ctPolarity := .trueIs0 }
      .tststTz 0 0 0 0b00000001 = some false := by decide

/-- R202: the table's Y[15:8], `ИСТ[7:1].ИСТ[7]`. -/
theorem test_byte_y_upper_as_tabled :
    seen (fun t => (t.reg 1, t.y)) { parameters with byteYUpper := .asTabled }
      (.shftrShrrShupz .byte 1) 0x1281 0 0 0 = some (0x1202, 0x8102) := by decide

/-! ## Codes -/

/-- 1101 for the fixed field of ROTNR, and 1011 and 1101 exchanged elsewhere, so that no BOR1 operation is
1101, as R96 asks. -/
def printedCodes : Codes :=
  { Codes.standard with
    rotnrCode85 := .printed
    bor1Op := fun op => if op = .setnr then 0b1011#4 else op.code
    bor2Op := fun op => if op = .ldc2nr then 0b1011#4 else op.code
    rotr1Form := fun form => if form = .rtry then 0b1011#4 else form.code
    twoOp := fun op => if op = .exnor then 0b1101#4 else op.code
    sorForm := fun form => if form.code = 0b1011#4 then 0b1101#4 else form.code
    ignoresImmediate := fun _ => Codes.standard.ignoresImmediate _ }

/-- The word EDBD is ROTNR under the printed 1101, and SETNR moves with its code. -/
theorem test_rotnr_printed :
    decodeWith printedCodes [0b1_11_0110_1101_11101#16] = .ok (.rotnrRtaa .word 6) [] ∧
    decodeWith printedCodes [0b1_11_0110_1011_11101#16] = .ok (.bor1Setnr .word 6 29) [] ∧
    decodeWith printedCodes [0b1_10_1100_0111_00011#16, 0x1234#16] = .ok (.sorMoveSoir .word 3 0x1234) [] :=
  by decide +kernel

/-- With every other code at its default the word EDBD would have two readings (R96): it is none. -/
theorem test_rotnr_printed_alone :
    decodeWith { Codes.standard with rotnrCode85 := .printed } [0xEDBD] = .undecodable 0xEDBD ∧
    decodeWith .standard [0xEDBD] = .ok (.bor1Setnr .word 6 29) [] := by decide +kernel

/-- Codes with another I[15] for CRCF, SETST and NOP, other fixed fields for SVSTNR than for SVSTR, and
another F3 for NOP. -/
def otherFixedCodes : Codes :=
  { Codes.standard with
    crcf := ⟨.byte, 0b0110#4, 0b0011#4⟩
    setst := ⟨.word, 0b1011#4, 0b1010#4⟩
    nop := ⟨.word, 0b1000#4, 0b1010#4⟩
    nopF3 := 0b11111#5
    svstnr := ⟨0b0111#4, 0b1011#4⟩
    ignoresImmediate := fun _ => Codes.standard.ignoresImmediate _ }

/-- The words of R103 to R105 and R107 with those bits changed are instructions under these codes and, at
the defaults, none (R75). -/
theorem test_fixed_fields_are_codes :
    ∀ p ∈ [(0b0_10_0110_0011_00001#16, Instr.crcf 1), (0b1_11_1011_1010_00011#16, .setstSonccz),
        (0b1_11_1000_1010_11111#16, .nop), (0b0_11_0111_1011_00001#16, .svstnrNra .byte)],
      decodeWith otherFixedCodes [p.1] = .ok p.2 [] ∧ decodeWith .standard [p.1] = .undecodable p.1 := by
  decide +kernel

/-- SVSTR keeps its own fixed fields under these codes. -/
theorem test_svstr_keeps_its_codes :
    decodeWith otherFixedCodes [0b1_10_0111_1010_00001#16] = .ok (.svstr .word 1) [] ∧
    decodeWith otherFixedCodes [0b0_11_0111_1010_00001#16] = .undecodable 0x6F41 := by decide +kernel

/-- One step under the printed codes, from a configured start: ROTNR.W RTAA, n=6 on 8001 gives 0060. -/
theorem test_step_with_codes :
    (match stepWith ⟨printedCodes, parameters, State.reset⟩ (start [0xEDBD] 0 0 0x8001 0 0) with
      | .next t => some (t.acc, t.ip)
      | .fault _ | .refused _ => none) = some (0x0060, 1) := by decide +kernel

/-- `RESET_STATE` is what the configured machine starts from. -/
theorem test_reset_state :
    (coreWith ⟨.standard, parameters, start [0x7140] 1 0x1234 0 0 0⟩).reset =
      start [0x7140] 1 0x1234 0 0 0 := rfl

/-- The printed codes give the word of ROTNR.W RTAA, n=6 to no other instruction. -/
theorem witness_AnyCodesDecodeAndEncodeAgree :
    (decodeWith printedCodes [0xEDBD, 0x0001] = .ok (.rotnrRtaa .word 6) [0x0001]) ∧
    (∀ j : Instr, encodeWith printedCodes j = encodeWith printedCodes (.rotnrRtaa .word 6) →
      j = .rotnrRtaa .word 6) ∧
    ∀ j : Instr, (encodeWith printedCodes j).head? =
        (encodeWith printedCodes (.rotnrRtaa .word 6)).head? →
      (encodeWith printedCodes j).length = (encodeWith printedCodes (.rotnrRtaa .word 6)).length := by
  have only : ∀ f : Format, f.fieldsWith printedCodes = ⟨.word, 0b11#2, 6, 0b1101#4, 0b11101#5⟩ →
      f = .rotnr .rtaa .word 6 := by
    intro f h
    cases f <;> simp [Format.fieldsWith] at h <;> obtain ⟨h1, h2, h3, h4⟩ := h
    case sonr op src dst w => cases op <;> exact absurd h2 (by decide)
    case tonr form op dst w => cases dst <;> exact absurd h4 (by decide)
    case shftnr src op dst w => cases dst <;> exact absurd h4 (by decide)
    case bor1 op w n a => cases op <;> exact absurd h3 (by decide)
    case rotnr form w n =>
      subst h1 h2
      cases form <;> first | rfl | exact absurd h4 (by decide)
    case prtnr mask src dst w => cases dst <;> exact absurd h4 (by decide)
    case svstnr dst w => cases dst <;> exact absurd h4 (by decide)
    case setst | rstst | tstst | nop => exact absurd h1 (by decide)
  have same : ∀ j : Instr, (encodeWith printedCodes j).head? =
      (encodeWith printedCodes (.rotnrRtaa .word 6)).head? → j = .rotnrRtaa .word 6 := by
    intro j h
    have e := congrArg fieldsOf (Option.some.inj h)
    rw [fieldsOf_assemble, fieldsOf_assemble] at e
    have := only _ e
    rw [← instr_format j, this, ← instr_format (.rotnrRtaa .word 6)]
    rfl
  exact ⟨by decide +kernel, fun j h => same j (congrArg List.head? h),
    fun j h => by rw [same j h]⟩

end

end Sys2Proof.Tests
end

