-- ==== Sys2Proof/Tests/Words.lean ====
section
/-! SUPPORT. The decoding of every constructor, on words written out from spec/opcode_table.json: the
row's match value with W, n and a put at the bits its fields name, and an immediate word after it where
the row takes one. The values of W, n, a and the immediate vary from row to row. -/

namespace Sys2Proof.Tests

open Sys2Proof

noncomputable section

/-- The words decode to the instruction, with no word left. -/
def decodes (p : List Word × Instr) : Bool := decide (decode p.1 = .ok p.2 [])

/-- SOR, SONR, part 1: 34 rows. -/
def singleWords1 : List (List Word × Instr) :=
  [([0x5805], .sorMoveSora .byte 5),
   ([0xD84C], .sorMoveSory .word 12),
   ([0x5873], .sorMoveSors .byte 19),
   ([0xD89A], .sorMoveSoar .word 26),
   ([0x58C1], .sorMoveSodr .byte 1),
   ([0xD8E8, 0x6243], .sorMoveSoir .word 8 0x6243),
   ([0x590F], .sorMoveSozr .byte 15),
   ([0xD936], .sorMoveSozer .word 22),
   ([0x595D], .sorMoveSoser .byte 29),
   ([0xD964], .sorMoveSorr .word 4),
   ([0x5A13], .sorCompSora .byte 19),
   ([0xDA5A], .sorCompSory .word 26),
   ([0x5A61], .sorCompSors .byte 1),
   ([0xDA88], .sorCompSoar .word 8),
   ([0x5ACF], .sorCompSodr .byte 15),
   ([0xDAF6, 0x82A9], .sorCompSoir .word 22 0x82A9),
   ([0x5B1D], .sorCompSozr .byte 29),
   ([0xDB24], .sorCompSozer .word 4),
   ([0x5B4B], .sorCompSoser .byte 11),
   ([0xDB72], .sorCompSorr .word 18),
   ([0x5C01], .sorIncSora .byte 1),
   ([0xDC48], .sorIncSory .word 8),
   ([0x5C6F], .sorIncSors .byte 15),
   ([0xDC96], .sorIncSoar .word 22),
   ([0x5CDD], .sorIncSodr .byte 29),
   ([0xDCE4, 0xA30F], .sorIncSoir .word 4 0xA30F),
   ([0x5D0B], .sorIncSozr .byte 11),
   ([0xDD32], .sorIncSozer .word 18),
   ([0x5D59], .sorIncSoser .byte 25),
   ([0xDD60], .sorIncSorr .word 0),
   ([0x5E0F], .sorNegSora .byte 15),
   ([0xDE56], .sorNegSory .word 22),
   ([0x5E7D], .sorNegSors .byte 29),
   ([0xDE84], .sorNegSoar .word 4)]

theorem test_singleWords1_decode : singleWords1.all decodes = true := by decide

/-- SOR, SONR, part 2: 34 rows. -/
def singleWords2 : List (List Word × Instr) :=
  [([0x5ECB], .sorNegSodr .byte 11),
   ([0xDEF2, 0xC375], .sorNegSoir .word 18 0xC375),
   ([0x5F19], .sorNegSozr .byte 25),
   ([0xDF20], .sorNegSozer .word 0),
   ([0x5F47], .sorNegSoser .byte 7),
   ([0xDF6E], .sorNegSorr .word 14),
   ([0x7880], .sonrMoveSoaNry .byte),
   ([0xF881], .sonrMoveSoaNra .word),
   ([0x7884], .sonrMoveSoaNrs .byte),
   ([0xF885], .sonrMoveSoaNras .word),
   ([0x78C0], .sonrMoveSodNry .byte),
   ([0xF8C1], .sonrMoveSodNra .word),
   ([0x78C4], .sonrMoveSodNrs .byte),
   ([0xF8C5], .sonrMoveSodNras .word),
   ([0x78E0, 0x326A], .sonrMoveSoiNry .byte 0x326A),
   ([0xF8E1, 0x426D], .sonrMoveSoiNra .word 0x426D),
   ([0x78E4, 0x5270], .sonrMoveSoiNrs .byte 0x5270),
   ([0xF8E5, 0x6273], .sonrMoveSoiNras .word 0x6273),
   ([0x7900], .sonrMoveSozNry .byte),
   ([0xF901], .sonrMoveSozNra .word),
   ([0x7904], .sonrMoveSozNrs .byte),
   ([0xF905], .sonrMoveSozNras .word),
   ([0x7920], .sonrMoveSozeNry .byte),
   ([0xF921], .sonrMoveSozeNra .word),
   ([0x7924], .sonrMoveSozeNrs .byte),
   ([0xF925], .sonrMoveSozeNras .word),
   ([0x7940], .sonrMoveSoseNry .byte),
   ([0xF941], .sonrMoveSoseNra .word),
   ([0x7944], .sonrMoveSoseNrs .byte),
   ([0xF945], .sonrMoveSoseNras .word),
   ([0x7A80], .sonrCompSoaNry .byte),
   ([0xFA81], .sonrCompSoaNra .word),
   ([0x7A84], .sonrCompSoaNrs .byte),
   ([0xFA85], .sonrCompSoaNras .word)]

theorem test_singleWords2_decode : singleWords2.all decodes = true := by decide

/-- SOR, SONR, part 3: 34 rows. -/
def singleWords3 : List (List Word × Instr) :=
  [([0x7AC0], .sonrCompSodNry .byte),
   ([0xFAC1], .sonrCompSodNra .word),
   ([0x7AC4], .sonrCompSodNrs .byte),
   ([0xFAC5], .sonrCompSodNras .word),
   ([0x7AE0, 0x52D0], .sonrCompSoiNry .byte 0x52D0),
   ([0xFAE1, 0x62D3], .sonrCompSoiNra .word 0x62D3),
   ([0x7AE4, 0x72D6], .sonrCompSoiNrs .byte 0x72D6),
   ([0xFAE5, 0x82D9], .sonrCompSoiNras .word 0x82D9),
   ([0x7B00], .sonrCompSozNry .byte),
   ([0xFB01], .sonrCompSozNra .word),
   ([0x7B04], .sonrCompSozNrs .byte),
   ([0xFB05], .sonrCompSozNras .word),
   ([0x7B20], .sonrCompSozeNry .byte),
   ([0xFB21], .sonrCompSozeNra .word),
   ([0x7B24], .sonrCompSozeNrs .byte),
   ([0xFB25], .sonrCompSozeNras .word),
   ([0x7B40], .sonrCompSoseNry .byte),
   ([0xFB41], .sonrCompSoseNra .word),
   ([0x7B44], .sonrCompSoseNrs .byte),
   ([0xFB45], .sonrCompSoseNras .word),
   ([0x7C80], .sonrIncSoaNry .byte),
   ([0xFC81], .sonrIncSoaNra .word),
   ([0x7C84], .sonrIncSoaNrs .byte),
   ([0xFC85], .sonrIncSoaNras .word),
   ([0x7CC0], .sonrIncSodNry .byte),
   ([0xFCC1], .sonrIncSodNra .word),
   ([0x7CC4], .sonrIncSodNrs .byte),
   ([0xFCC5], .sonrIncSodNras .word),
   ([0x7CE0, 0x7336], .sonrIncSoiNry .byte 0x7336),
   ([0xFCE1, 0x8339], .sonrIncSoiNra .word 0x8339),
   ([0x7CE4, 0x933C], .sonrIncSoiNrs .byte 0x933C),
   ([0xFCE5, 0xA33F], .sonrIncSoiNras .word 0xA33F),
   ([0x7D00], .sonrIncSozNry .byte),
   ([0xFD01], .sonrIncSozNra .word)]

theorem test_singleWords3_decode : singleWords3.all decodes = true := by decide

/-- SOR, SONR, part 4: 34 rows. -/
def singleWords4 : List (List Word × Instr) :=
  [([0x7D04], .sonrIncSozNrs .byte),
   ([0xFD05], .sonrIncSozNras .word),
   ([0x7D20], .sonrIncSozeNry .byte),
   ([0xFD21], .sonrIncSozeNra .word),
   ([0x7D24], .sonrIncSozeNrs .byte),
   ([0xFD25], .sonrIncSozeNras .word),
   ([0x7D40], .sonrIncSoseNry .byte),
   ([0xFD41], .sonrIncSoseNra .word),
   ([0x7D44], .sonrIncSoseNrs .byte),
   ([0xFD45], .sonrIncSoseNras .word),
   ([0x7E80], .sonrNegSoaNry .byte),
   ([0xFE81], .sonrNegSoaNra .word),
   ([0x7E84], .sonrNegSoaNrs .byte),
   ([0xFE85], .sonrNegSoaNras .word),
   ([0x7EC0], .sonrNegSodNry .byte),
   ([0xFEC1], .sonrNegSodNra .word),
   ([0x7EC4], .sonrNegSodNrs .byte),
   ([0xFEC5], .sonrNegSodNras .word),
   ([0x7EE0, 0x939C], .sonrNegSoiNry .byte 0x939C),
   ([0xFEE1, 0xA39F], .sonrNegSoiNra .word 0xA39F),
   ([0x7EE4, 0xB3A2], .sonrNegSoiNrs .byte 0xB3A2),
   ([0xFEE5, 0xC3A5], .sonrNegSoiNras .word 0xC3A5),
   ([0x7F00], .sonrNegSozNry .byte),
   ([0xFF01], .sonrNegSozNra .word),
   ([0x7F04], .sonrNegSozNrs .byte),
   ([0xFF05], .sonrNegSozNras .word),
   ([0x7F20], .sonrNegSozeNry .byte),
   ([0xFF21], .sonrNegSozeNra .word),
   ([0x7F24], .sonrNegSozeNrs .byte),
   ([0xFF25], .sonrNegSozeNras .word),
   ([0x7F40], .sonrNegSoseNry .byte),
   ([0xFF41], .sonrNegSoseNra .word),
   ([0x7F44], .sonrNegSoseNrs .byte),
   ([0xFF45], .sonrNegSoseNras .word)]

theorem test_singleWords4_decode : singleWords4.all decodes = true := by decide

/-- TOR1, part 1: 36 rows. -/
def tor1Words1 : List (List Word × Instr) :=
  [([0x001D], .tor1ToraaSubr .byte 29),
   ([0x8404, 0xA3CF], .tor1ToriaSubr .word 4 0xA3CF),
   ([0x060B], .tor1TodraSubr .byte 11),
   ([0x9012], .tor1ToraySubr .word 18),
   ([0x1419, 0xD3D8], .tor1ToriySubr .byte 25 0xD3D8),
   ([0x9600], .tor1TodrySubr .word 0),
   ([0x1807], .tor1TorarSubr .byte 7),
   ([0x9C0E, 0x03E1], .tor1TorirSubr .word 14 0x03E1),
   ([0x1E15], .tor1TodrrSubr .byte 21),
   ([0x0025], .tor1ToraaSubrc .byte 5),
   ([0x842C, 0x2417], .tor1ToriaSubrc .word 12 0x2417),
   ([0x0633], .tor1TodraSubrc .byte 19),
   ([0x903A], .tor1ToraySubrc .word 26),
   ([0x1421, 0x5420], .tor1ToriySubrc .byte 1 0x5420),
   ([0x9628], .tor1TodrySubrc .word 8),
   ([0x182F], .tor1TorarSubrc .byte 15),
   ([0x9C36, 0x8429], .tor1TorirSubrc .word 22 0x8429),
   ([0x1E3D], .tor1TodrrSubrc .byte 29),
   ([0x004D], .tor1ToraaSubs .byte 13),
   ([0x8454, 0xA45F], .tor1ToriaSubs .word 20 0xA45F),
   ([0x065B], .tor1TodraSubs .byte 27),
   ([0x9042], .tor1ToraySubs .word 2),
   ([0x1449, 0xD468], .tor1ToriySubs .byte 9 0xD468),
   ([0x9650], .tor1TodrySubs .word 16),
   ([0x1857], .tor1TorarSubs .byte 23),
   ([0x9C5E, 0x0471], .tor1TorirSubs .word 30 0x0471),
   ([0x1E45], .tor1TodrrSubs .byte 5),
   ([0x0075], .tor1ToraaSubsc .byte 21),
   ([0x847C, 0x24A7], .tor1ToriaSubsc .word 28 0x24A7),
   ([0x0663], .tor1TodraSubsc .byte 3),
   ([0x906A], .tor1ToraySubsc .word 10),
   ([0x1471, 0x54B0], .tor1ToriySubsc .byte 17 0x54B0),
   ([0x9678], .tor1TodrySubsc .word 24),
   ([0x187F], .tor1TorarSubsc .byte 31),
   ([0x9C66, 0x84B9], .tor1TorirSubsc .word 6 0x84B9),
   ([0x1E6D], .tor1TodrrSubsc .byte 13)]

theorem test_tor1Words1_decode : tor1Words1.all decodes = true := by decide

/-- TOR1, part 2: 36 rows. -/
def tor1Words2 : List (List Word × Instr) :=
  [([0x009D], .tor1ToraaAdd .byte 29),
   ([0x8484, 0xA4EF], .tor1ToriaAdd .word 4 0xA4EF),
   ([0x068B], .tor1TodraAdd .byte 11),
   ([0x9092], .tor1TorayAdd .word 18),
   ([0x1499, 0xD4F8], .tor1ToriyAdd .byte 25 0xD4F8),
   ([0x9680], .tor1TodryAdd .word 0),
   ([0x1887], .tor1TorarAdd .byte 7),
   ([0x9C8E, 0x0501], .tor1TorirAdd .word 14 0x0501),
   ([0x1E95], .tor1TodrrAdd .byte 21),
   ([0x00A5], .tor1ToraaAddc .byte 5),
   ([0x84AC, 0x2537], .tor1ToriaAddc .word 12 0x2537),
   ([0x06B3], .tor1TodraAddc .byte 19),
   ([0x90BA], .tor1TorayAddc .word 26),
   ([0x14A1, 0x5540], .tor1ToriyAddc .byte 1 0x5540),
   ([0x96A8], .tor1TodryAddc .word 8),
   ([0x18AF], .tor1TorarAddc .byte 15),
   ([0x9CB6, 0x8549], .tor1TorirAddc .word 22 0x8549),
   ([0x1EBD], .tor1TodrrAddc .byte 29),
   ([0x00CD], .tor1ToraaAnd .byte 13),
   ([0x84D4, 0xA57F], .tor1ToriaAnd .word 20 0xA57F),
   ([0x06DB], .tor1TodraAnd .byte 27),
   ([0x90C2], .tor1TorayAnd .word 2),
   ([0x14C9, 0xD588], .tor1ToriyAnd .byte 9 0xD588),
   ([0x96D0], .tor1TodryAnd .word 16),
   ([0x18D7], .tor1TorarAnd .byte 23),
   ([0x9CDE, 0x0591], .tor1TorirAnd .word 30 0x0591),
   ([0x1EC5], .tor1TodrrAnd .byte 5),
   ([0x00F5], .tor1ToraaNand .byte 21),
   ([0x84FC, 0x25C7], .tor1ToriaNand .word 28 0x25C7),
   ([0x06E3], .tor1TodraNand .byte 3),
   ([0x90EA], .tor1TorayNand .word 10),
   ([0x14F1, 0x55D0], .tor1ToriyNand .byte 17 0x55D0),
   ([0x96F8], .tor1TodryNand .word 24),
   ([0x18FF], .tor1TorarNand .byte 31),
   ([0x9CE6, 0x85D9], .tor1TorirNand .word 6 0x85D9),
   ([0x1EED], .tor1TodrrNand .byte 13)]

theorem test_tor1Words2_decode : tor1Words2.all decodes = true := by decide

/-- TOR1, part 3: 36 rows. -/
def tor1Words3 : List (List Word × Instr) :=
  [([0x011D], .tor1ToraaExor .byte 29),
   ([0x8504, 0xA60F], .tor1ToriaExor .word 4 0xA60F),
   ([0x070B], .tor1TodraExor .byte 11),
   ([0x9112], .tor1TorayExor .word 18),
   ([0x1519, 0xD618], .tor1ToriyExor .byte 25 0xD618),
   ([0x9700], .tor1TodryExor .word 0),
   ([0x1907], .tor1TorarExor .byte 7),
   ([0x9D0E, 0x0621], .tor1TorirExor .word 14 0x0621),
   ([0x1F15], .tor1TodrrExor .byte 21),
   ([0x0125], .tor1ToraaNor .byte 5),
   ([0x852C, 0x2657], .tor1ToriaNor .word 12 0x2657),
   ([0x0733], .tor1TodraNor .byte 19),
   ([0x913A], .tor1TorayNor .word 26),
   ([0x1521, 0x5660], .tor1ToriyNor .byte 1 0x5660),
   ([0x9728], .tor1TodryNor .word 8),
   ([0x192F], .tor1TorarNor .byte 15),
   ([0x9D36, 0x8669], .tor1TorirNor .word 22 0x8669),
   ([0x1F3D], .tor1TodrrNor .byte 29),
   ([0x014D], .tor1ToraaOr .byte 13),
   ([0x8554, 0xA69F], .tor1ToriaOr .word 20 0xA69F),
   ([0x075B], .tor1TodraOr .byte 27),
   ([0x9142], .tor1TorayOr .word 2),
   ([0x1549, 0xD6A8], .tor1ToriyOr .byte 9 0xD6A8),
   ([0x9750], .tor1TodryOr .word 16),
   ([0x1957], .tor1TorarOr .byte 23),
   ([0x9D5E, 0x06B1], .tor1TorirOr .word 30 0x06B1),
   ([0x1F45], .tor1TodrrOr .byte 5),
   ([0x0175], .tor1ToraaExnor .byte 21),
   ([0x857C, 0x26E7], .tor1ToriaExnor .word 28 0x26E7),
   ([0x0763], .tor1TodraExnor .byte 3),
   ([0x916A], .tor1TorayExnor .word 10),
   ([0x1571, 0x56F0], .tor1ToriyExnor .byte 17 0x56F0),
   ([0x9778], .tor1TodryExnor .word 24),
   ([0x197F], .tor1TorarExnor .byte 31),
   ([0x9D66, 0x86F9], .tor1TorirExnor .word 6 0x86F9),
   ([0x1F6D], .tor1TodrrExnor .byte 13)]

theorem test_tor1Words3_decode : tor1Words3.all decodes = true := by decide

/-- TOR2: 36 rows. -/
def tor2Words : List (List Word × Instr) :=
  [([0xC21C], .tor2TodarSubr .word 28),
   ([0x4403, 0x33EA], .tor2ToairSubr .byte 3 0x33EA),
   ([0xCA0A, 0x43ED], .tor2TodirSubr .word 10 0x43ED),
   ([0xC224], .tor2TodarSubrc .word 4),
   ([0x442B, 0xB432], .tor2ToairSubrc .byte 11 0xB432),
   ([0xCA32, 0xC435], .tor2TodirSubrc .word 18 0xC435),
   ([0xC24C], .tor2TodarSubs .word 12),
   ([0x4453, 0x347A], .tor2ToairSubs .byte 19 0x347A),
   ([0xCA5A, 0x447D], .tor2TodirSubs .word 26 0x447D),
   ([0xC274], .tor2TodarSubsc .word 20),
   ([0x447B, 0xB4C2], .tor2ToairSubsc .byte 27 0xB4C2),
   ([0xCA62, 0xC4C5], .tor2TodirSubsc .word 2 0xC4C5),
   ([0xC29C], .tor2TodarAdd .word 28),
   ([0x4483, 0x350A], .tor2ToairAdd .byte 3 0x350A),
   ([0xCA8A, 0x450D], .tor2TodirAdd .word 10 0x450D),
   ([0xC2A4], .tor2TodarAddc .word 4),
   ([0x44AB, 0xB552], .tor2ToairAddc .byte 11 0xB552),
   ([0xCAB2, 0xC555], .tor2TodirAddc .word 18 0xC555),
   ([0xC2CC], .tor2TodarAnd .word 12),
   ([0x44D3, 0x359A], .tor2ToairAnd .byte 19 0x359A),
   ([0xCADA, 0x459D], .tor2TodirAnd .word 26 0x459D),
   ([0xC2F4], .tor2TodarNand .word 20),
   ([0x44FB, 0xB5E2], .tor2ToairNand .byte 27 0xB5E2),
   ([0xCAE2, 0xC5E5], .tor2TodirNand .word 2 0xC5E5),
   ([0xC31C], .tor2TodarExor .word 28),
   ([0x4503, 0x362A], .tor2ToairExor .byte 3 0x362A),
   ([0xCB0A, 0x462D], .tor2TodirExor .word 10 0x462D),
   ([0xC324], .tor2TodarNor .word 4),
   ([0x452B, 0xB672], .tor2ToairNor .byte 11 0xB672),
   ([0xCB32, 0xC675], .tor2TodirNor .word 18 0xC675),
   ([0xC34C], .tor2TodarOr .word 12),
   ([0x4553, 0x36BA], .tor2ToairOr .byte 19 0x36BA),
   ([0xCB5A, 0x46BD], .tor2TodirOr .word 26 0x46BD),
   ([0xC374], .tor2TodarExnor .word 20),
   ([0x457B, 0xB702], .tor2ToairExnor .byte 27 0xB702),
   ([0xCB62, 0xC705], .tor2TodirExnor .word 2 0xC705)]

theorem test_tor2Words_decode : tor2Words.all decodes = true := by decide

/-- TONR, part 1: 36 rows. -/
def tonrWords1 : List (List Word × Instr) :=
  [([0x6200], .tonrTodaSubrNry .byte),
   ([0xE201], .tonrTodaSubrNra .word),
   ([0x6204], .tonrTodaSubrNrs .byte),
   ([0xE205], .tonrTodaSubrNras .word),
   ([0x6400, 0x93FC], .tonrToaiSubrNry .byte 0x93FC),
   ([0xE401, 0xA3FF], .tonrToaiSubrNra .word 0xA3FF),
   ([0x6404, 0xB402], .tonrToaiSubrNrs .byte 0xB402),
   ([0xE405, 0xC405], .tonrToaiSubrNras .word 0xC405),
   ([0x6A00, 0xD408], .tonrTodiSubrNry .byte 0xD408),
   ([0xEA01, 0xE40B], .tonrTodiSubrNra .word 0xE40B),
   ([0x6A04, 0xF40E], .tonrTodiSubrNrs .byte 0xF40E),
   ([0xEA05, 0x0411], .tonrTodiSubrNras .word 0x0411),
   ([0x6220], .tonrTodaSubrcNry .byte),
   ([0xE221], .tonrTodaSubrcNra .word),
   ([0x6224], .tonrTodaSubrcNrs .byte),
   ([0xE225], .tonrTodaSubrcNras .word),
   ([0x6420, 0x1444], .tonrToaiSubrcNry .byte 0x1444),
   ([0xE421, 0x2447], .tonrToaiSubrcNra .word 0x2447),
   ([0x6424, 0x344A], .tonrToaiSubrcNrs .byte 0x344A),
   ([0xE425, 0x444D], .tonrToaiSubrcNras .word 0x444D),
   ([0x6A20, 0x5450], .tonrTodiSubrcNry .byte 0x5450),
   ([0xEA21, 0x6453], .tonrTodiSubrcNra .word 0x6453),
   ([0x6A24, 0x7456], .tonrTodiSubrcNrs .byte 0x7456),
   ([0xEA25, 0x8459], .tonrTodiSubrcNras .word 0x8459),
   ([0x6240], .tonrTodaSubsNry .byte),
   ([0xE241], .tonrTodaSubsNra .word),
   ([0x6244], .tonrTodaSubsNrs .byte),
   ([0xE245], .tonrTodaSubsNras .word),
   ([0x6440, 0x948C], .tonrToaiSubsNry .byte 0x948C),
   ([0xE441, 0xA48F], .tonrToaiSubsNra .word 0xA48F),
   ([0x6444, 0xB492], .tonrToaiSubsNrs .byte 0xB492),
   ([0xE445, 0xC495], .tonrToaiSubsNras .word 0xC495),
   ([0x6A40, 0xD498], .tonrTodiSubsNry .byte 0xD498),
   ([0xEA41, 0xE49B], .tonrTodiSubsNra .word 0xE49B),
   ([0x6A44, 0xF49E], .tonrTodiSubsNrs .byte 0xF49E),
   ([0xEA45, 0x04A1], .tonrTodiSubsNras .word 0x04A1)]

theorem test_tonrWords1_decode : tonrWords1.all decodes = true := by decide

/-- TONR, part 2: 36 rows. -/
def tonrWords2 : List (List Word × Instr) :=
  [([0x6260], .tonrTodaSubscNry .byte),
   ([0xE261], .tonrTodaSubscNra .word),
   ([0x6264], .tonrTodaSubscNrs .byte),
   ([0xE265], .tonrTodaSubscNras .word),
   ([0x6460, 0x14D4], .tonrToaiSubscNry .byte 0x14D4),
   ([0xE461, 0x24D7], .tonrToaiSubscNra .word 0x24D7),
   ([0x6464, 0x34DA], .tonrToaiSubscNrs .byte 0x34DA),
   ([0xE465, 0x44DD], .tonrToaiSubscNras .word 0x44DD),
   ([0x6A60, 0x54E0], .tonrTodiSubscNry .byte 0x54E0),
   ([0xEA61, 0x64E3], .tonrTodiSubscNra .word 0x64E3),
   ([0x6A64, 0x74E6], .tonrTodiSubscNrs .byte 0x74E6),
   ([0xEA65, 0x84E9], .tonrTodiSubscNras .word 0x84E9),
   ([0x6280], .tonrTodaAddNry .byte),
   ([0xE281], .tonrTodaAddNra .word),
   ([0x6284], .tonrTodaAddNrs .byte),
   ([0xE285], .tonrTodaAddNras .word),
   ([0x6480, 0x951C], .tonrToaiAddNry .byte 0x951C),
   ([0xE481, 0xA51F], .tonrToaiAddNra .word 0xA51F),
   ([0x6484, 0xB522], .tonrToaiAddNrs .byte 0xB522),
   ([0xE485, 0xC525], .tonrToaiAddNras .word 0xC525),
   ([0x6A80, 0xD528], .tonrTodiAddNry .byte 0xD528),
   ([0xEA81, 0xE52B], .tonrTodiAddNra .word 0xE52B),
   ([0x6A84, 0xF52E], .tonrTodiAddNrs .byte 0xF52E),
   ([0xEA85, 0x0531], .tonrTodiAddNras .word 0x0531),
   ([0x62A0], .tonrTodaAddcNry .byte),
   ([0xE2A1], .tonrTodaAddcNra .word),
   ([0x62A4], .tonrTodaAddcNrs .byte),
   ([0xE2A5], .tonrTodaAddcNras .word),
   ([0x64A0, 0x1564], .tonrToaiAddcNry .byte 0x1564),
   ([0xE4A1, 0x2567], .tonrToaiAddcNra .word 0x2567),
   ([0x64A4, 0x356A], .tonrToaiAddcNrs .byte 0x356A),
   ([0xE4A5, 0x456D], .tonrToaiAddcNras .word 0x456D),
   ([0x6AA0, 0x5570], .tonrTodiAddcNry .byte 0x5570),
   ([0xEAA1, 0x6573], .tonrTodiAddcNra .word 0x6573),
   ([0x6AA4, 0x7576], .tonrTodiAddcNrs .byte 0x7576),
   ([0xEAA5, 0x8579], .tonrTodiAddcNras .word 0x8579)]

theorem test_tonrWords2_decode : tonrWords2.all decodes = true := by decide

/-- TONR, part 3: 36 rows. -/
def tonrWords3 : List (List Word × Instr) :=
  [([0x62C0], .tonrTodaAndNry .byte),
   ([0xE2C1], .tonrTodaAndNra .word),
   ([0x62C4], .tonrTodaAndNrs .byte),
   ([0xE2C5], .tonrTodaAndNras .word),
   ([0x64C0, 0x95AC], .tonrToaiAndNry .byte 0x95AC),
   ([0xE4C1, 0xA5AF], .tonrToaiAndNra .word 0xA5AF),
   ([0x64C4, 0xB5B2], .tonrToaiAndNrs .byte 0xB5B2),
   ([0xE4C5, 0xC5B5], .tonrToaiAndNras .word 0xC5B5),
   ([0x6AC0, 0xD5B8], .tonrTodiAndNry .byte 0xD5B8),
   ([0xEAC1, 0xE5BB], .tonrTodiAndNra .word 0xE5BB),
   ([0x6AC4, 0xF5BE], .tonrTodiAndNrs .byte 0xF5BE),
   ([0xEAC5, 0x05C1], .tonrTodiAndNras .word 0x05C1),
   ([0x62E0], .tonrTodaNandNry .byte),
   ([0xE2E1], .tonrTodaNandNra .word),
   ([0x62E4], .tonrTodaNandNrs .byte),
   ([0xE2E5], .tonrTodaNandNras .word),
   ([0x64E0, 0x15F4], .tonrToaiNandNry .byte 0x15F4),
   ([0xE4E1, 0x25F7], .tonrToaiNandNra .word 0x25F7),
   ([0x64E4, 0x35FA], .tonrToaiNandNrs .byte 0x35FA),
   ([0xE4E5, 0x45FD], .tonrToaiNandNras .word 0x45FD),
   ([0x6AE0, 0x5600], .tonrTodiNandNry .byte 0x5600),
   ([0xEAE1, 0x6603], .tonrTodiNandNra .word 0x6603),
   ([0x6AE4, 0x7606], .tonrTodiNandNrs .byte 0x7606),
   ([0xEAE5, 0x8609], .tonrTodiNandNras .word 0x8609),
   ([0x6300], .tonrTodaExorNry .byte),
   ([0xE301], .tonrTodaExorNra .word),
   ([0x6304], .tonrTodaExorNrs .byte),
   ([0xE305], .tonrTodaExorNras .word),
   ([0x6500, 0x963C], .tonrToaiExorNry .byte 0x963C),
   ([0xE501, 0xA63F], .tonrToaiExorNra .word 0xA63F),
   ([0x6504, 0xB642], .tonrToaiExorNrs .byte 0xB642),
   ([0xE505, 0xC645], .tonrToaiExorNras .word 0xC645),
   ([0x6B00, 0xD648], .tonrTodiExorNry .byte 0xD648),
   ([0xEB01, 0xE64B], .tonrTodiExorNra .word 0xE64B),
   ([0x6B04, 0xF64E], .tonrTodiExorNrs .byte 0xF64E),
   ([0xEB05, 0x0651], .tonrTodiExorNras .word 0x0651)]

theorem test_tonrWords3_decode : tonrWords3.all decodes = true := by decide

/-- TONR, part 4: 36 rows. -/
def tonrWords4 : List (List Word × Instr) :=
  [([0x6320], .tonrTodaNorNry .byte),
   ([0xE321], .tonrTodaNorNra .word),
   ([0x6324], .tonrTodaNorNrs .byte),
   ([0xE325], .tonrTodaNorNras .word),
   ([0x6520, 0x1684], .tonrToaiNorNry .byte 0x1684),
   ([0xE521, 0x2687], .tonrToaiNorNra .word 0x2687),
   ([0x6524, 0x368A], .tonrToaiNorNrs .byte 0x368A),
   ([0xE525, 0x468D], .tonrToaiNorNras .word 0x468D),
   ([0x6B20, 0x5690], .tonrTodiNorNry .byte 0x5690),
   ([0xEB21, 0x6693], .tonrTodiNorNra .word 0x6693),
   ([0x6B24, 0x7696], .tonrTodiNorNrs .byte 0x7696),
   ([0xEB25, 0x8699], .tonrTodiNorNras .word 0x8699),
   ([0x6340], .tonrTodaOrNry .byte),
   ([0xE341], .tonrTodaOrNra .word),
   ([0x6344], .tonrTodaOrNrs .byte),
   ([0xE345], .tonrTodaOrNras .word),
   ([0x6540, 0x96CC], .tonrToaiOrNry .byte 0x96CC),
   ([0xE541, 0xA6CF], .tonrToaiOrNra .word 0xA6CF),
   ([0x6544, 0xB6D2], .tonrToaiOrNrs .byte 0xB6D2),
   ([0xE545, 0xC6D5], .tonrToaiOrNras .word 0xC6D5),
   ([0x6B40, 0xD6D8], .tonrTodiOrNry .byte 0xD6D8),
   ([0xEB41, 0xE6DB], .tonrTodiOrNra .word 0xE6DB),
   ([0x6B44, 0xF6DE], .tonrTodiOrNrs .byte 0xF6DE),
   ([0xEB45, 0x06E1], .tonrTodiOrNras .word 0x06E1),
   ([0x6360], .tonrTodaExnorNry .byte),
   ([0xE361], .tonrTodaExnorNra .word),
   ([0x6364], .tonrTodaExnorNrs .byte),
   ([0xE365], .tonrTodaExnorNras .word),
   ([0x6560, 0x1714], .tonrToaiExnorNry .byte 0x1714),
   ([0xE561, 0x2717], .tonrToaiExnorNra .word 0x2717),
   ([0x6564, 0x371A], .tonrToaiExnorNrs .byte 0x371A),
   ([0xE565, 0x471D], .tonrToaiExnorNras .word 0x471D),
   ([0x6B60, 0x5720], .tonrTodiExnorNry .byte 0x5720),
   ([0xEB61, 0x6723], .tonrTodiExnorNra .word 0x6723),
   ([0x6B64, 0x7726], .tonrTodiExnorNrs .byte 0x7726),
   ([0xEB65, 0x8729], .tonrTodiExnorNras .word 0x8729)]

theorem test_tonrWords4_decode : tonrWords4.all decodes = true := by decide

/-- SHFTR, SHFTNR, part 1: 24 rows. -/
def shiftWords1 : List (List Word × Instr) :=
  [([0x4C1D], .shftrShrrShupz .byte 29),
   ([0xCE04], .shftrShdrShupz .word 4),
   ([0x4C27], .shftrShrrShup1 .byte 7),
   ([0xCE2E], .shftrShdrShup1 .word 14),
   ([0x4C51], .shftrShrrShupl .byte 17),
   ([0xCE58], .shftrShdrShupl .word 24),
   ([0x4C9B], .shftrShrrShdnz .byte 27),
   ([0xCE82], .shftrShdrShdnz .word 2),
   ([0x4CA5], .shftrShrrShdn1 .byte 5),
   ([0xCEAC], .shftrShdrShdn1 .word 12),
   ([0x4CCF], .shftrShrrShdnl .byte 15),
   ([0xCED6], .shftrShdrShdnl .word 22),
   ([0x4CF9], .shftrShrrShdnc .byte 25),
   ([0xCEE0], .shftrShdrShdnc .word 0),
   ([0x4D03], .shftrShrrShdnov .byte 3),
   ([0xCF0A], .shftrShdrShdnov .word 10),
   ([0x6C00], .shftnrShaShupzNry .byte),
   ([0xEC01], .shftnrShaShupzNra .word),
   ([0x6E00], .shftnrShdShupzNry .byte),
   ([0xEE01], .shftnrShdShupzNra .word),
   ([0x6C20], .shftnrShaShup1Nry .byte),
   ([0xEC21], .shftnrShaShup1Nra .word),
   ([0x6E20], .shftnrShdShup1Nry .byte),
   ([0xEE21], .shftnrShdShup1Nra .word)]

theorem test_shiftWords1_decode : shiftWords1.all decodes = true := by decide

/-- SHFTR, SHFTNR, part 2: 24 rows. -/
def shiftWords2 : List (List Word × Instr) :=
  [([0x6C40], .shftnrShaShuplNry .byte),
   ([0xEC41], .shftnrShaShuplNra .word),
   ([0x6E40], .shftnrShdShuplNry .byte),
   ([0xEE41], .shftnrShdShuplNra .word),
   ([0x6C80], .shftnrShaShdnzNry .byte),
   ([0xEC81], .shftnrShaShdnzNra .word),
   ([0x6E80], .shftnrShdShdnzNry .byte),
   ([0xEE81], .shftnrShdShdnzNra .word),
   ([0x6CA0], .shftnrShaShdn1Nry .byte),
   ([0xECA1], .shftnrShaShdn1Nra .word),
   ([0x6EA0], .shftnrShdShdn1Nry .byte),
   ([0xEEA1], .shftnrShdShdn1Nra .word),
   ([0x6CC0], .shftnrShaShdnlNry .byte),
   ([0xECC1], .shftnrShaShdnlNra .word),
   ([0x6EC0], .shftnrShdShdnlNry .byte),
   ([0xEEC1], .shftnrShdShdnlNra .word),
   ([0x6CE0], .shftnrShaShdncNry .byte),
   ([0xECE1], .shftnrShaShdncNra .word),
   ([0x6EE0], .shftnrShdShdncNry .byte),
   ([0xEEE1], .shftnrShdShdncNra .word),
   ([0x6D00], .shftnrShaShdnovNry .byte),
   ([0xED01], .shftnrShaShdnovNra .word),
   ([0x6F00], .shftnrShdShdnovNry .byte),
   ([0xEF01], .shftnrShdShdnovNra .word)]

theorem test_shiftWords2_decode : shiftWords2.all decodes = true := by decide

/-- BOR1, BOR2, BONR: 21 rows. -/
def bitWords : List (List Word × Instr) :=
  [([0x77AD], .bor1Setnr .byte 11 13),
   ([0xE1D4], .bor1Rstnr .word 0 20),
   ([0x6BFB], .bor1Tstnr .byte 5 27),
   ([0xD582], .bor2Ld2nr .word 10 2),
   ([0x5FA9], .bor2Ldc2nr .byte 15 9),
   ([0xC9D0], .bor2A2nr .word 4 16),
   ([0x53F7], .bor2S2nr .byte 9 23),
   ([0xFD80], .bonrTstna .word 14),
   ([0x6781], .bonrRstna .byte 3),
   ([0xF182], .bonrSetna .word 8),
   ([0x7B84], .bonrA2na .byte 13),
   ([0xE585], .bonrS2na .word 2),
   ([0x6F86], .bonrLd2na .byte 7),
   ([0xF987], .bonrLdc2na .word 12),
   ([0x6390], .bonrTstnd .byte 1),
   ([0xED91], .bonrRstnd .word 6),
   ([0x7792], .bonrSetnd .byte 11),
   ([0xE194], .bonrA2ndy .word 0),
   ([0x6B95], .bonrS2ndy .byte 5),
   ([0xF596], .bonrLd2ny .word 10),
   ([0x7F97], .bonrLdc2ny .byte 15)]

theorem test_bitWords_decode : bitWords.all decodes = true := by decide

/-- ROTR1, ROTR2, ROTNR: 9 rows. -/
def rotateWords : List (List Word × Instr) :=
  [([0x8980], .rotr1Rtra .word 4 0),
   ([0x13C7], .rotr1Rtry .byte 9 7),
   ([0x9DEE], .rotr1Rtrr .word 14 14),
   ([0x2615], .rotr2Rtar .byte 3 21),
   ([0xB03C], .rotr2Rtdr .word 8 28),
   ([0x7B98], .rotnrRtdy .byte 13),
   ([0xE599], .rotnrRtda .word 2),
   ([0x6F9C], .rotnrRtay .byte 7),
   ([0xF99D], .rotnrRtaa .word 12)]

theorem test_rotateWords_decode : rotateWords.all decodes = true := by decide

/-- ROTC, ROTM: 10 rows. -/
def maskWords : List (List Word × Instr) :=
  [([0x225F, 0x7816], .rotcCdai .byte 1 31 0x7816),
   ([0xAC66, 0x8819], .rotcCdri .word 6 6 0x8819),
   ([0x368D], .rotcCdra .byte 11 13),
   ([0xA0B4, 0xA81F], .rotcCrai .word 0 20 0xA81F),
   ([0x2AFB, 0xB822], .rotmMdai .byte 5 27 0xB822),
   ([0xB502], .rotmMdar .word 10 2),
   ([0x3F29, 0xD828], .rotmMdri .byte 15 9 0xD828),
   ([0xA950], .rotmMdra .word 4 16),
   ([0x3397, 0xF82E], .rotmMari .byte 9 23 0xF82E),
   ([0xBDDE, 0x0831], .rotmMrai .word 14 30 0x0831)]

theorem test_maskWords_decode : maskWords.all decodes = true := by decide

/-- PRT1, PRT2, PRT3, PRTNR: 33 rows. -/
def prioritizeWords : List (List Word × Instr) :=
  [([0x50E5], .prt1Pr1aPrt1a .byte 5),
   ([0xD12C], .prt1Pr1aPrt1d .word 12),
   ([0x54F3], .prt1Pr1yPrt1a .byte 19),
   ([0xD53A], .prt1Pr1yPrt1d .word 26),
   ([0x56E1], .prt1Pr1rPrt1a .byte 1),
   ([0xD728], .prt1Pr1rPrt1d .word 8),
   ([0x500F], .prt2PraPr2a .byte 15),
   ([0xD056], .prt2PraPr2y .word 22),
   ([0xD40E], .prt2PrzPr2a .word 14),
   ([0x5455], .prt2PrzPr2y .byte 21),
   ([0x560D, 0x987C], .prt2PriPr2a .byte 13 0x987C),
   ([0xD654, 0xA87F], .prt2PriPr2y .word 20 0xA87F),
   ([0x507D], .prt3PraPr3r .byte 29),
   ([0xD084], .prt3PraPr3a .word 4),
   ([0x50CB], .prt3PraPr3d .byte 11),
   ([0xD47C], .prt3PrzPr3r .word 28),
   ([0x5483], .prt3PrzPr3a .byte 3),
   ([0xD4CA], .prt3PrzPr3d .word 10),
   ([0x567B, 0xB882], .prt3PriPr3r .byte 27 0xB882),
   ([0xD682, 0xC885], .prt3PriPr3a .word 2 0xC885),
   ([0x56C9, 0xD888], .prt3PriPr3d .byte 9 0xD888),
   ([0xF080], .prtnrPraPrtaNry .word),
   ([0x7081], .prtnrPraPrtaNra .byte),
   ([0xF0C0], .prtnrPraPrtdNry .word),
   ([0x70C1], .prtnrPraPrtdNra .byte),
   ([0x7480], .prtnrPrzPrtaNry .byte),
   ([0xF481], .prtnrPrzPrtaNra .word),
   ([0x74C0], .prtnrPrzPrtdNry .byte),
   ([0xF4C1], .prtnrPrzPrtdNra .word),
   ([0xF680, 0xE88B], .prtnrPriPrtaNry .word 0xE88B),
   ([0x7681, 0xF88E], .prtnrPriPrtaNra .byte 0xF88E),
   ([0xF6C0, 0x0891], .prtnrPriPrtdNry .word 0x0891),
   ([0x76C1, 0x1894], .prtnrPriPrtdNra .byte 0x1894)]

theorem test_prioritizeWords_decode : prioritizeWords.all decodes = true := by decide

/-- CRCF, CRCR, SETST, RSTST, SVSTR, SVSTNR, TSTST, NOP: 28 rows. -/
def restWords : List (List Word × Instr) :=
  [([0xCC6C], .crcf 12),
   ([0xCD33], .crcr 19),
   ([0x7743], .setstSonccz),
   ([0x7745], .setstSl),
   ([0x7746], .setstSf1),
   ([0x7749], .setstSf2),
   ([0x774A], .setstSf3),
   ([0x7543], .rststRonccz),
   ([0x7545], .rststRl),
   ([0x7546], .rststRf1),
   ([0x7549], .rststRf2),
   ([0x754A], .rststRf3),
   ([0xCF40], .svstr .word 0),
   ([0x6F40], .svstnrNry .byte),
   ([0xEF41], .svstnrNra .word),
   ([0x7340], .tststTnoz),
   ([0x7342], .tststTno),
   ([0x7344], .tststTz),
   ([0x7346], .tststTovr),
   ([0x7348], .tststTlow),
   ([0x734A], .tststTc),
   ([0x734C], .tststTzc),
   ([0x734E], .tststTn),
   ([0x7350], .tststTl),
   ([0x7352], .tststTf1),
   ([0x7354], .tststTf2),
   ([0x7356], .tststTf3),
   ([0x7140], .nop)]

theorem test_restWords_decode : restWords.all decodes = true := by decide

end

end Sys2Proof.Tests
end

/-! # The field places of seven formats

A format's words give back its fields, whichever codes the fields hold; the statement is this fact for SOR,
SONR, TOR1, TOR2, TONR, SHFTR and SHFTNR. -/

namespace Sys2Proof.FieldPlaces

open Sys2Proof.Claims

/-- B/W is the top bit of the instruction word: the four fields below it take 15 bits (R70, D4). -/
theorem getLsbD_assemble_width (f : Fields) :
    f.assemble.getLsbD 15 = decide (f.w = .word) := by
  obtain ⟨htop, -⟩ := fields_append f.w.bit f.q f.f1 f.f2 f.f3
  calc f.assemble.getLsbD 15
      = (f.assemble.extractLsb' 15 1).getLsbD 0 := by simp
    _ = f.w.bit.getLsbD 0 := congrArg (·.getLsbD 0) htop
    _ = decide (f.w = .word) := by cases f.w <;> rfl

/-- The first word of a format's instruction is assembled from the format's fields; an immediate word can
only follow it. -/
theorem head?_encode_instr (f : Format) : (encode f.instr).head? = some f.fields.assemble := by
  simp only [encode, format_instr, Format.words, List.head?_cons]

/-- An instruction of any format has that format's fields at the bits of R70. -/
theorem fieldsAre_instr (f : Format) :
    FieldsAre f.instr f.fields.w f.fields.q f.fields.f1 f.fields.f2 f.fields.f3 := by
  obtain ⟨-, hq, h1, h2, h3⟩ :=
    fields_append f.fields.w.bit f.fields.q f.fields.f1 f.fields.f2 f.fields.f3
  exact ⟨f.fields.assemble, head?_encode_instr f, getLsbD_assemble_width f.fields, hq, h1, h2, h3⟩

/-- Settles O5: one instance of `fieldsAre_instr` for each format, whose fields are the row of R71. -/
theorem formatsPlaceTheirFields : Obligations.FormatsPlaceTheirFields := by
  unfold Obligations.FormatsPlaceTheirFields
  refine ⟨?sor, ?sonr, ?tor1, ?tor2, ?tonr, ?shftr, ?shftnr⟩
  case sor => exact fun op form w a => fieldsAre_instr (.sor op form w a)
  case sonr => exact fun op src dst w => fieldsAre_instr (.sonr op src dst w)
  case tor1 => exact fun form op w a => fieldsAre_instr (.tor1 form op w a)
  case tor2 => exact fun form op w a => fieldsAre_instr (.tor2 form op w a)
  case tonr => exact fun form op dst w => fieldsAre_instr (.tonr form op dst w)
  case shftr => exact fun form op w a => fieldsAre_instr (.shftr form op w a)
  case shftnr => exact fun src op dst w => fieldsAre_instr (.shftnr src op dst w)

end Sys2Proof.FieldPlaces

/-! # The flags of the shifts

The 48 shifts are one operation, run from six pairs of a source and a destination (R212 to R216); the
flags of R203 are a fact about that operation alone. -/

namespace Sys2Proof.Shifts

open Sys2Proof.Machine Sys2Proof.Claims

/-- The operations that shift up are those of R204 to R206. -/
theorem shiftsUp_iff (op : ShiftOp) :
    shiftsUp op = true ↔ op = .shupz ∨ op = .shup1 ∨ op = .shupl := by
  cases op <;> simp [shiftsUp]

/-- The place of the bit that leaves a `k`-bit source: the top for an up shift, bit 0 for a down shift
(R202). -/
def outPlace (k : Nat) (op : ShiftOp) : Nat :=
  if op = .shupz ∨ op = .shup1 ∨ op = .shupl then k - 1 else 0

/-- The bit that leaves a source lies inside it. -/
theorem outPlace_lt_bits (w : Width) (op : ShiftOp) : outPlace w.bits op < w.bits := by
  unfold outPlace
  cases w <;> split <;> decide

/-- The flags of every shift operation (R203): those of a logic result, with the bit shifted out in L. -/
theorem shiftOp_st {k : Nat} (op : ShiftOp) (v : BitVec k) (st : Status) :
    (shiftOp op v st).st =
      { flagsOf (shiftOp op v st).value false false st with l := v.getLsbD (outPlace k op) } := by
  by_cases hup : shiftsUp op = true
  · have hplace : outPlace k op = k - 1 := if_pos ((shiftsUp_iff op).1 hup)
    simp only [shiftOp, if_pos hup, shiftFlags, logicFlags_eq, hplace, BitVec.msb_eq_getLsbD_last]
  · have hplace : outPlace k op = 0 := if_neg (mt (shiftsUp_iff op).2 hup)
    simp only [shiftOp, if_neg hup, shiftFlags, logicFlags_eq, hplace]

/-- A bit of the operand of width `w` is that bit of the word it is taken from. -/
theorem getLsbD_loW (w : Width) (v : Word) {i : Nat} (hi : i < w.bits) :
    (loW w v).getLsbD i = v.getLsbD i := by
  simp [loW, hi]

/-- Every row of Табл. 10.14 runs the shift of R202 from a source that reads the row's value to the row's
destination, which is never РгС. -/
theorem exec_shiftRow {w : Width} {a : Reg} {s : State} {row : ShiftRow} (hrow : row ∈ shiftRows w a s) :
    ∃ src, s.read src = row.src ∧ row.dst.loadsStatus = false ∧
      ∀ op, exec (row.instr op) s = runShift parameters op src row.dst w s := by
  simp only [shiftRows, List.mem_cons, List.not_mem_nil, or_false] at hrow
  obtain rfl | rfl | rfl | rfl | rfl | rfl := hrow
  · exact ⟨.reg a, rfl, rfl, fun op => exec_instr (.shftr .shrr op w a) s⟩
  · exact ⟨.d, rfl, rfl, fun op => exec_instr (.shftr .shdr op w a) s⟩
  · exact ⟨.acc, rfl, rfl, fun op => exec_instr (.shftnr .sha op .nry w) s⟩
  · exact ⟨.acc, rfl, rfl, fun op => exec_instr (.shftnr .sha op .nra w) s⟩
  · exact ⟨.d, rfl, rfl, fun op => exec_instr (.shftnr .shd op .nry w) s⟩
  · exact ⟨.d, rfl, rfl, fun op => exec_instr (.shftnr .shd op .nra w) s⟩

/-- Settles O30: Y shows the shifted result, РгС takes the flags of `shiftOp_st`, and the bit that leaves
the operand is that bit of the row's source. -/
theorem shiftFlags : Obligations.ShiftFlags := by
  unfold Obligations.ShiftFlags
  intro w a s row hrow op
  obtain ⟨src, hsrc, hdst, hexec⟩ := exec_shiftRow hrow
  have hout : (s.operand w src).getLsbD (outPlace w.bits op) = row.src.getLsbD (outPlace w.bits op) := by
    rw [State.operand, hsrc, getLsbD_loW w _ (outPlace_lt_bits w op)]
  refine ⟨_, hexec op, ?_⟩
  rw [complete_st, statusAfter_flags _ _ _ _ _ hdst, shiftOp_st, complete_y, loW_yBus]
  exact ⟨rfl, decide_eq_true_iff, rfl, rfl, hout, rfl, rfl, rfl⟩

end Sys2Proof.Shifts

/-! # The CRC steps, bit by bit

Both steps XOR the gated polynomial mask into the check-sum register shifted by one place (R342, R343). -/

namespace Sys2Proof.Crc

open Sys2Proof.Machine Sys2Proof.Claims

/-- The AND gates of R342: the mask passes where the feedback bit is 1, and 0 passes where it is 0. -/
theorem getLsbD_gated (q : Bool) (mask : Word) (i : Nat) :
    (if q then mask else 0).getLsbD i = (q && mask.getLsbD i) := by
  cases q
  · exact BitVec.getLsbD_zero
  · exact (Bool.true_and _).symm

/-- The result bits of the forward step, as the rows of Табл. 10.22 for CRCF (R342). -/
theorem getLsbD_crcForward (v mask : Word) (st : Status) {i : Nat} (hi : i < 16) :
    (crcForward v mask st).value.getLsbD i =
      (((st.l != v.getLsbD 15) && mask.getLsbD i) != if i = 0 then false else v.getLsbD (i - 1)) := by
  have hshift : (v <<< 1).getLsbD i = if i = 0 then false else v.getLsbD (i - 1) := by
    cases i with
    | zero => simp
    | succ j => simp [BitVec.getLsbD_shiftLeft, hi, -BitVec.getLsbD_eq_getElem]
  simp only [crcForward]
  rw [BitVec.getLsbD_xor, getLsbD_gated, hshift, BitVec.msb_eq_getLsbD_last]

/-- The result bits of the reverse step, as the rows of Табл. 10.22 for CRCR (R343). -/
theorem getLsbD_crcReverse (v mask : Word) (st : Status) (i : Nat) :
    (crcReverse v mask st).value.getLsbD i =
      (((st.l != v.getLsbD 0) && mask.getLsbD i) != if i = 15 then false else v.getLsbD (i + 1)) := by
  have hshift : (v >>> 1).getLsbD i = if i = 15 then false else v.getLsbD (i + 1) := by
    rw [BitVec.getLsbD_ushiftRight, Nat.add_comm]
    split
    · next htop => exact BitVec.getLsbD_of_ge v (i + 1) (by omega)
    · rfl
  simp only [crcReverse]
  rw [BitVec.getLsbD_xor, getLsbD_gated, hshift]

/-- The flags of the forward step: those of a logic result, with the old top bit in L (R342). -/
theorem crcForward_st (v mask : Word) (st : Status) :
    (crcForward v mask st).st =
      { flagsOf (crcForward v mask st).value false false st with l := v.getLsbD 15 } := by
  simp only [crcForward, logicFlags_eq, BitVec.msb_eq_getLsbD_last]

/-- The flags of the reverse step: those of a logic result, with the old bit 0 in L (R343). -/
theorem crcReverse_st (v mask : Word) (st : Status) :
    (crcReverse v mask st).st =
      { flagsOf (crcReverse v mask st).value false false st with l := v.getLsbD 0 } := by
  simp only [crcReverse, logicFlags_eq]

/-- Settles O41: CRCF delivers the result of `crcForward` to `x[a]`. -/
theorem crcForwardStep : Obligations.CrcForwardStep := by
  unfold Obligations.CrcForwardStep
  intro a s
  have hbits := fun i (hi : i < 16) => getLsbD_crcForward (s.reg a) s.acc s.st hi
  have hflags := crcForward_st (s.reg a) s.acc s.st
  exact ⟨_, hbits, deliver_gives _ (exec_instr (.crcf a) s) nofun rfl hflags⟩

/-- Settles O42: CRCR delivers the result of `crcReverse` to `x[a]`. -/
theorem crcReverseStep : Obligations.CrcReverseStep := by
  unfold Obligations.CrcReverseStep
  intro a s
  have hbits := fun i (_ : i < 16) => getLsbD_crcReverse (s.reg a) s.acc s.st i
  have hflags := crcReverse_st (s.reg a) s.acc s.st
  exact ⟨_, hbits, deliver_gives _ (exec_instr (.crcr a) s) nofun rfl hflags⟩

end Sys2Proof.Crc

/-! # NOP

NOP ends without a write, and the end of an instruction touches only Y, CT, the index and the model's
counter of draws (R390). -/

namespace Sys2Proof.NoOperation

open Sys2Proof.Machine Sys2Proof.Claims

/-- The end of a one-word instruction writes no register, whatever it puts on Y and CT. -/
theorem finish_keepsRegisters (s : State) (y : Word) (ct : Bool) :
    KeepsRegisters s (s.finish y ct 1) :=
  ⟨fun b => s.finish_reg b y ct 1, s.finish_acc y ct 1, s.finish_d y ct 1, s.finish_ip y ct 1,
    s.finish_prog y ct 1, s.finish_dFeed y ct 1⟩

/-- NOP does nothing but end, with free values on Y and CT (R390). -/
theorem exec_nop (s : State) :
    exec .nop s = .next (s.finish (Config.freeY s.draws) (Config.freeCT s.draws) 1) :=
  exec_instr .nop s

/-- Settles O50: NOP is the bare end of an instruction, which keeps the registers and РгС. -/
theorem nopResult : Obligations.NopResult := by
  unfold Obligations.NopResult
  intro s
  exact ⟨_, exec_nop s, s.finish_st _ _ 1, finish_keepsRegisters s _ _⟩

end Sys2Proof.NoOperation

/-! # Decoding and encoding

Every decoder here is `readInstr` over a table of formats. The default decoder finds a format
exactly where the format's fields are those of the word and its immediate word, if it has one, is
the word after it (`formatOf_eq_some`); the configured decoder does so where only one format
qualifies (`formatWith_eq_some`). The statements about words follow from these two equivalences. -/

namespace Sys2Proof.Encoding

open Sys2Proof.Claims

/-- `f` is a reading of a word with the fields `i` before the word `imm` (R76, R112). -/
def ReadAs (f : Format) (i : Fields) (imm : Word) : Prop :=
  f.fields = i ∧ f.immediate.getD imm = imm

/-! ## What the decoder finds is a reading -/

/-- Quadrant 00 (R108). -/
theorem readAs_of_decodeQuadrant00 {imm : Word} {i : Fields} {f : Format} (hq : i.q = 0b00#2)
    (h : decodeQuadrant00 imm i = some f) : ReadAs f i imm := by
  obtain ⟨w, q, f1, f2, f3⟩ := i
  obtain rfl := hq
  unfold decodeQuadrant00 at h
  split at h
  · next op hop =>
    obtain ⟨form, hform, rfl⟩ := Option.map_eq_some_iff.1 h
    obtain ⟨rfl, himm⟩ := Tor1Form.code_of_ofCode hform
    obtain rfl := TwoOp.code_of_ofCode hop
    exact ⟨rfl, himm⟩
  · obtain ⟨form, hform, rfl⟩ := Option.map_eq_some_iff.1 h
    obtain rfl := Rotr1Form.code_of_ofCode hform
    exact ⟨rfl, rfl⟩

/-- Quadrant 01 (R109). -/
theorem readAs_of_decodeQuadrant01 {imm : Word} {i : Fields} {f : Format} (hq : i.q = 0b01#2)
    (h : decodeQuadrant01 imm i = some f) : ReadAs f i imm := by
  obtain ⟨w, q, f1, f2, f3⟩ := i
  obtain rfl := hq
  unfold decodeQuadrant01 at h
  split at h
  · next form hform =>
    cases h
    obtain rfl := Rotr2Form.code_of_ofCode hform
    exact ⟨rfl, rfl⟩
  · split at h
    · next form hform =>
      cases h
      obtain ⟨rfl, himm⟩ := RotcForm.code_of_ofCode hform
      exact ⟨rfl, himm⟩
    · obtain ⟨form, hform, rfl⟩ := Option.map_eq_some_iff.1 h
      obtain ⟨rfl, himm⟩ := RotmForm.code_of_ofCode hform
      exact ⟨rfl, himm⟩

/-- F1 = 0110 of quadrant 10: SHFTR SHRR and the CRC steps, which need W = 1 (R75, R110). -/
theorem readAs_of_decodeShrr {imm : Word} {i : Fields} {f : Format} (hq : i.q = 0b10#2)
    (h1 : i.f1 = 0b0110#4) (h : decodeShrr i = some f) : ReadAs f i imm := by
  obtain ⟨w, q, f1, f2, f3⟩ := i
  obtain rfl := hq
  obtain rfl := h1
  unfold decodeShrr at h
  split at h
  · next hw h2 => cases h; cases hw; cases h2; exact ⟨rfl, rfl⟩
  · next hw h2 => cases h; cases hw; cases h2; exact ⟨rfl, rfl⟩
  · obtain ⟨op, hop, rfl⟩ := Option.map_eq_some_iff.1 h
    obtain rfl := ShiftOp.code_of_ofCode hop
    exact ⟨rfl, rfl⟩

/-- F1 = 0111 of quadrant 10: SHFTR SHDR and SVSTR (R110). -/
theorem readAs_of_decodeShdr {imm : Word} {i : Fields} {f : Format} (hq : i.q = 0b10#2)
    (h1 : i.f1 = 0b0111#4) (h : decodeShdr i = some f) : ReadAs f i imm := by
  obtain ⟨w, q, f1, f2, f3⟩ := i
  obtain rfl := hq
  obtain rfl := h1
  unfold decodeShdr at h
  split at h
  · next h2 => cases h; cases h2; exact ⟨rfl, rfl⟩
  · obtain ⟨op, hop, rfl⟩ := Option.map_eq_some_iff.1 h
    obtain rfl := ShiftOp.code_of_ofCode hop
    exact ⟨rfl, rfl⟩

/-- PRT1, PRT2 and PRT3 (R110). -/
theorem readAs_of_decodePrioritize {imm : Word} {i : Fields} {f : Format} (hq : i.q = 0b10#2)
    (h : decodePrioritize imm i = some f) : ReadAs f i imm := by
  obtain ⟨w, q, f1, f2, f3⟩ := i
  obtain rfl := hq
  unfold decodePrioritize at h
  split at h
  · next src hsrc =>
    obtain ⟨dst, hdst, rfl⟩ := Option.map_eq_some_iff.1 h
    obtain rfl := Prt1Source.code_of_ofCode hsrc
    obtain rfl := Prt1Dest.code_of_ofCode hdst
    exact ⟨rfl, rfl⟩
  · split at h
    · cases h
    · next mask hmask =>
      obtain ⟨rfl, himm⟩ := PrtMask.code_of_ofCode hmask
      split at h
      · next dst hdst =>
        cases h
        obtain rfl := Prt2Dest.code_of_ofCode hdst
        exact ⟨rfl, himm⟩
      · obtain ⟨src, hsrc, rfl⟩ := Option.map_eq_some_iff.1 h
        obtain rfl := Prt3Source.code_of_ofCode hsrc
        exact ⟨rfl, himm⟩

/-- SOR (R110). -/
theorem readAs_of_decodeSor {imm : Word} {i : Fields} {f : Format} (hq : i.q = 0b10#2)
    (h : decodeSor imm i = some f) : ReadAs f i imm := by
  obtain ⟨w, q, f1, f2, f3⟩ := i
  obtain rfl := hq
  unfold decodeSor at h
  split at h
  · next op hop =>
    obtain ⟨form, hform, rfl⟩ := Option.map_eq_some_iff.1 h
    obtain rfl := SingleOp.code_of_ofCode hop
    obtain ⟨rfl, himm⟩ := SorForm.code_of_ofCode hform
    exact ⟨rfl, himm⟩
  · cases h

/-- Quadrant 10 (R110). -/
theorem readAs_of_decodeQuadrant10 {imm : Word} {i : Fields} {f : Format} (hq : i.q = 0b10#2)
    (h : decodeQuadrant10 imm i = some f) : ReadAs f i imm := by
  obtain ⟨w, q, f1, f2, f3⟩ := i
  unfold decodeQuadrant10 at h
  split at h
  · next op hop =>
    cases h
    obtain rfl := hq
    obtain rfl := Bor2Op.code_of_ofCode hop
    exact ⟨rfl, rfl⟩
  · split at h
    · next form hform =>
      obtain ⟨op, hop, rfl⟩ := Option.map_eq_some_iff.1 h
      obtain rfl := hq
      obtain ⟨rfl, himm⟩ := Tor2Form.code_of_ofCode hform
      obtain rfl := TwoOp.code_of_ofCode hop
      exact ⟨rfl, himm⟩
    · split at h
      · next h1 => exact readAs_of_decodeShrr hq h1 h
      · next h1 => exact readAs_of_decodeShdr hq h1 h
      · exact readAs_of_decodePrioritize hq h
      · exact readAs_of_decodePrioritize hq h
      · exact readAs_of_decodePrioritize hq h
      · exact readAs_of_decodeSor hq h

/-- BONR and ROTNR (R111). -/
theorem readAs_of_decodeBonr {imm : Word} {i : Fields} {f : Format} (hq : i.q = 0b11#2)
    (h2 : i.f2 = 0b1100#4) (h : decodeBonr i = some f) : ReadAs f i imm := by
  obtain ⟨w, q, f1, f2, f3⟩ := i
  obtain rfl := hq
  obtain rfl := h2
  unfold decodeBonr at h
  split at h
  · next op hop =>
    cases h
    obtain rfl := BonrOp.code_of_ofCode hop
    exact ⟨rfl, rfl⟩
  · obtain ⟨form, hform, rfl⟩ := Option.map_eq_some_iff.1 h
    obtain rfl := RotnrForm.code_of_ofCode hform
    exact ⟨rfl, rfl⟩

/-- SHFTNR, with the source that F1 names (R111). -/
theorem readAs_of_decodeShftnr {src : ShftnrSource} {imm : Word} {i : Fields} {f : Format}
    (hq : i.q = 0b11#2) (h1 : i.f1 = src.code) (h : decodeShftnr src i = some f) :
    ReadAs f i imm := by
  obtain ⟨w, q, f1, f2, f3⟩ := i
  obtain rfl := hq
  obtain rfl := h1
  unfold decodeShftnr at h
  split at h
  · next op hop =>
    obtain ⟨dst, hdst, rfl⟩ := Option.map_eq_some_iff.1 h
    obtain rfl := ShiftOp.code_of_ofCode hop
    obtain rfl := NrShortDest.code_of_ofCode hdst
    exact ⟨rfl, rfl⟩
  · cases h

/-- F2 = 1010 of quadrant 11: the status instructions and NOP (R75, R111). -/
theorem readAs_of_decodeStatus {imm : Word} {i : Fields} {f : Format} (hq : i.q = 0b11#2)
    (h2 : i.f2 = 0b1010#4) (h : decodeStatus i = some f) : ReadAs f i imm := by
  obtain ⟨w, q, f1, f2, f3⟩ := i
  obtain rfl := hq
  obtain rfl := h2
  unfold decodeStatus at h
  split at h
  · next h1 =>
    obtain ⟨dst, hdst, rfl⟩ := Option.map_eq_some_iff.1 h
    cases h1
    obtain rfl := NrShortDest.code_of_ofCode hdst
    exact ⟨rfl, rfl⟩
  · next h1 hw =>
    split at h
    · next h3 => cases h; cases h1; cases hw; cases h3; exact ⟨rfl, rfl⟩
    · cases h
  · next h1 hw =>
    obtain ⟨cond, hcond, rfl⟩ := Option.map_eq_some_iff.1 h
    cases h1; cases hw
    obtain rfl := TestCond.code_of_ofCode hcond
    exact ⟨rfl, rfl⟩
  · next h1 hw =>
    obtain ⟨op, hop, rfl⟩ := Option.map_eq_some_iff.1 h
    cases h1; cases hw
    obtain rfl := RstOp.code_of_ofCode hop
    exact ⟨rfl, rfl⟩
  · next h1 hw =>
    obtain ⟨op, hop, rfl⟩ := Option.map_eq_some_iff.1 h
    cases h1; cases hw
    obtain rfl := SetOp.code_of_ofCode hop
    exact ⟨rfl, rfl⟩
  · cases h

/-- PRTNR (R111). -/
theorem readAs_of_decodePrtnr {imm : Word} {i : Fields} {f : Format} (hq : i.q = 0b11#2)
    (h : decodePrtnr imm i = some f) : ReadAs f i imm := by
  obtain ⟨w, q, f1, f2, f3⟩ := i
  obtain rfl := hq
  unfold decodePrtnr at h
  split at h
  · next mask src hmask hsrc =>
    obtain ⟨dst, hdst, rfl⟩ := Option.map_eq_some_iff.1 h
    obtain ⟨rfl, himm⟩ := PrtMask.code_of_ofCode hmask
    obtain rfl := PrtnrSource.code_of_ofCode hsrc
    obtain rfl := NrShortDest.code_of_ofCode hdst
    exact ⟨rfl, himm⟩
  · cases h

/-- SONR (R111). -/
theorem readAs_of_decodeSonr {imm : Word} {i : Fields} {f : Format} (hq : i.q = 0b11#2)
    (h : decodeSonr imm i = some f) : ReadAs f i imm := by
  obtain ⟨w, q, f1, f2, f3⟩ := i
  obtain rfl := hq
  unfold decodeSonr at h
  split at h
  · next op src hop hsrc =>
    obtain ⟨dst, hdst, rfl⟩ := Option.map_eq_some_iff.1 h
    obtain rfl := SingleOp.code_of_ofCode hop
    obtain ⟨rfl, himm⟩ := SonrSource.code_of_ofCode hsrc
    obtain rfl := NrDest.code_of_ofCode hdst
    exact ⟨rfl, himm⟩
  · cases h

/-- TONR, and the formats of quadrant 11 that F1 selects (R111). -/
theorem readAs_of_decodeByF1 {imm : Word} {i : Fields} {f : Format} (hq : i.q = 0b11#2)
    (h : decodeByF1 imm i = some f) : ReadAs f i imm := by
  unfold decodeByF1 at h
  split at h
  · next form hform =>
    split at h
    · next op hop =>
      obtain ⟨w, q, f1, f2, f3⟩ := i
      obtain rfl := hq
      obtain ⟨dst, hdst, rfl⟩ := Option.map_eq_some_iff.1 h
      obtain ⟨rfl, himm⟩ := TonrForm.code_of_ofCode hform
      obtain rfl := TwoOp.code_of_ofCode hop
      obtain rfl := NrDest.code_of_ofCode hdst
      exact ⟨rfl, himm⟩
    · cases h
  · split at h
    · next h1 => exact readAs_of_decodeShftnr (src := .sha) hq h1 h
    · next h2 => exact readAs_of_decodeStatus hq h2 h
    · next h2 => exact readAs_of_decodeStatus hq h2 h
    · next h2 => exact readAs_of_decodeStatus hq h2 h
    · next h2 => exact readAs_of_decodeStatus hq h2 h
    · next h2 => exact readAs_of_decodeStatus hq h2 h
    · next h1 _ => exact readAs_of_decodeShftnr (src := .shd) hq h1 h
    · exact readAs_of_decodePrtnr hq h
    · exact readAs_of_decodePrtnr hq h
    · exact readAs_of_decodePrtnr hq h
    · exact readAs_of_decodeSonr hq h

/-- Quadrant 11 (R111). -/
theorem readAs_of_decodeQuadrant11 {imm : Word} {i : Fields} {f : Format} (hq : i.q = 0b11#2)
    (h : decodeQuadrant11 imm i = some f) : ReadAs f i imm := by
  unfold decodeQuadrant11 at h
  split at h
  · next op hop =>
    obtain ⟨w, q, f1, f2, f3⟩ := i
    obtain rfl := hq
    cases h
    obtain rfl := Bor1Op.code_of_ofCode hop
    exact ⟨rfl, rfl⟩
  · split at h
    · next h2 => exact readAs_of_decodeBonr hq h2 h
    · exact readAs_of_decodeByF1 hq h

/-- Every format the decoder finds is a reading of the word. -/
theorem readAs_of_formatOf {word imm : Word} {f : Format} (h : formatOf word imm = some f) :
    ReadAs f (fieldsOf word) imm := by
  simp only [formatOf] at h
  split at h
  · next hq => exact readAs_of_decodeQuadrant00 hq h
  · next hq => exact readAs_of_decodeQuadrant01 hq h
  · next hq => exact readAs_of_decodeQuadrant10 hq h
  · next h0 h1 h2 =>
    refine readAs_of_decodeQuadrant11 ?_ h
    revert h0 h1 h2
    generalize (fieldsOf word).q = q
    revert q
    decide

/-! ## Every reading is found -/

/-- Quadrant 11 goes to the formats that F1 selects unless F2 is that of BOR1, BONR or ROTNR (R111).
-/
theorem decodeQuadrant11_of_ne {imm : Word} {i : Fields} (hbor : Bor1Op.ofCode i.f2 = none)
    (hbonr : i.f2 ≠ 0b1100#4) : decodeQuadrant11 imm i = decodeByF1 imm i := by
  unfold decodeQuadrant11
  rw [hbor]
  split
  · next h => cases h
  · split
    · next h => exact absurd h hbonr
    · rfl

/-- The decoder finds a format from the format's own fields, before the word that is its immediate
word if it takes one. -/
theorem formatOf_of_fields {word imm : Word} {f : Format} (hf : f.fields = fieldsOf word)
    (himm : f.immediate.getD imm = imm) : formatOf word imm = some f := by
  simp only [formatOf, ← hf]
  cases f with
  | sor op form w a =>
    have hform := SorForm.ofCode_code imm form himm
    have hbit : Bor2Op.ofCode form.code = none := by cases form <;> rfl
    have hdecode : decodeSor imm ⟨w, 0b10#2, op.code, form.code, a⟩ = some (.sor op form w a) := by
      simp [decodeSor, hform]
    simp only [Format.fields_sor, decodeQuadrant10, hbit]
    cases op <;> exact hdecode
  | sonr op src dst w =>
    have hsrc := SonrSource.ofCode_code imm src himm
    have hbit : Bor1Op.ofCode src.code = none := by cases src <;> rfl
    have hne : src.code ≠ 0b1100#4 := by cases src <;> simp [SonrSource.code]
    have hdecode : decodeSonr imm ⟨w, 0b11#2, op.code, src.code, dst.code⟩ =
        some (.sonr op src dst w) := by simp [decodeSonr, hsrc]
    simp only [Format.fields_sonr]
    rw [decodeQuadrant11_of_ne hbit hne]
    cases op <;> exact hdecode
  | tor1 form op w a =>
    have hform := Tor1Form.ofCode_code imm form himm
    simp [decodeQuadrant00, hform]
  | tor2 form op w a =>
    have hform := Tor2Form.ofCode_code imm form himm
    have hbit : Bor2Op.ofCode op.code = none := by cases op <;> rfl
    simp [decodeQuadrant10, hbit, hform]
  | tonr form op dst w =>
    have hform := TonrForm.ofCode_code imm form himm
    have hbit : Bor1Op.ofCode op.code = none := by cases op <;> rfl
    have hne : op.code ≠ 0b1100#4 := by cases op <;> decide
    simp only [Format.fields_tonr]
    rw [decodeQuadrant11_of_ne hbit hne]
    simp [decodeByF1, hform]
  | shftr form op w a => cases form <;> cases op <;> cases w <;> rfl
  | shftnr src op dst w => cases src <;> cases op <;> cases dst <;> rfl
  | bor1 op w n a => simp [decodeQuadrant11]
  | bor2 op w n a => simp [decodeQuadrant10]
  | bonr op w n => cases op <;> rfl
  | rotr1 form w n a => cases form <;> rfl
  | rotr2 form w n a => cases form <;> rfl
  | rotnr form w n => cases form <;> rfl
  | rotc form w n a =>
    have hform := RotcForm.ofCode_code imm form himm
    have hrot : Rotr2Form.ofCode form.code = none := by cases form <;> rfl
    simp [decodeQuadrant01, hrot, hform]
  | rotm form w n a =>
    have hform := RotmForm.ofCode_code imm form himm
    have hrot : Rotr2Form.ofCode form.code = none := by cases form <;> rfl
    have hcmp : RotcForm.ofCode imm form.code = none := by cases form <;> rfl
    simp [decodeQuadrant01, hrot, hcmp, hform]
  | prt1 dst src w a => cases dst <;> cases src <;> rfl
  | prt2 mask dst w a =>
    have hmask := PrtMask.ofCode_code imm mask himm
    have hdecode : decodePrioritize imm ⟨w, 0b10#2, mask.code, dst.code, a⟩ =
        some (.prt2 mask dst w a) := by
      have hsrc : Prt1Source.ofCode dst.code = none := by cases dst <;> rfl
      simp [decodePrioritize, hsrc, hmask]
    cases dst <;> cases mask <;> exact hdecode
  | prt3 mask src w a =>
    have hmask := PrtMask.ofCode_code imm mask himm
    have hdecode : decodePrioritize imm ⟨w, 0b10#2, mask.code, src.code, a⟩ =
        some (.prt3 mask src w a) := by
      have hsrc : Prt1Source.ofCode src.code = none := by cases src <;> rfl
      have hdst : Prt2Dest.ofCode src.code = none := by cases src <;> rfl
      simp [decodePrioritize, hsrc, hdst, hmask]
    cases src <;> cases mask <;> exact hdecode
  | prtnr mask src dst w =>
    have hmask := PrtMask.ofCode_code imm mask himm
    have hdecode : decodePrtnr imm ⟨w, 0b11#2, mask.code, src.code, dst.code⟩ =
        some (.prtnr mask src dst w) := by simp [decodePrtnr, hmask]
    cases src <;> cases mask <;> exact hdecode
  | crcf | crcr | svstr | nop => rfl
  | setst op => cases op <;> rfl
  | rstst op => cases op <;> rfl
  | svstnr dst w => cases dst <;> rfl
  | tstst cond => cases cond <;> rfl

/-- The default decoder finds a format exactly where the format is a reading of the word. -/
theorem formatOf_eq_some {word imm : Word} {f : Format} :
    formatOf word imm = some f ↔ ReadAs f (fieldsOf word) imm :=
  ⟨readAs_of_formatOf, fun ⟨hf, himm⟩ => formatOf_of_fields hf himm⟩

/-! ## Reading from a list of words -/

/-- What a decoder whose formats carry the next word as their immediate word reads from a first
word: a format of that word, its immediate word if it takes one, and what follows. -/
theorem readInstr_cons_eq_ok {formatAt : Word → Word → Option Format} {word : Word}
    {tail rest : List Word} {i : Instr}
    (himm : ∀ imm f, formatAt word imm = some f → f.immediate.getD imm = imm) :
    readInstr formatAt (word :: tail) = .ok i rest ↔
      ∃ f, formatAt word (tail.headD 0) = some f ∧ f.instr = i ∧ tail = f.immediate.toList ++ rest := by
  simp only [readInstr]
  cases hf : formatAt word (tail.headD 0) with
  | none => simp
  | some f =>
    have hhead := himm _ _ hf
    cases hv : f.immediate with
    | none => simp [hv]
    | some v =>
      rw [hv, Option.getD_some] at hhead
      cases tail with
      | nil => simp [hv]
      | cons x tail => subst hhead; simp [hv]

/-- The word after an instruction word is the instruction's immediate word, if it has one. -/
theorem getD_headD_append (o : Option Word) (rest : List Word) :
    o.getD ((o.toList ++ rest).headD 0) = (o.toList ++ rest).headD 0 := by
  cases o <;> rfl

/-- The first word of an instruction. -/
theorem encode_eq (i : Instr) :
    encode i = i.format.fields.assemble :: i.format.immediate.toList := rfl

/-- What the default decoder reads from a first word. -/
theorem decode_cons_eq_ok {word : Word} {tail rest : List Word} {i : Instr} :
    decode (word :: tail) = .ok i rest ↔
      ∃ f, formatOf word (tail.headD 0) = some f ∧ f.instr = i ∧ tail = f.immediate.toList ++ rest :=
  readInstr_cons_eq_ok fun _ _ hf => (formatOf_eq_some.1 hf).2

/-- Settles O1: the instruction's own format is a reading of its first word. -/
theorem decodeOfEncode : Obligations.DecodeOfEncode := by
  unfold Obligations.DecodeOfEncode
  intro i rest
  rw [encode_eq, List.cons_append, decode_cons_eq_ok]
  refine ⟨i.format, ?_, instr_format i, rfl⟩
  exact formatOf_eq_some.2 ⟨(fieldsOf_assemble _).symm, getD_headD_append _ rest⟩

/-- Settles O2: the fields of the format the decoder finds are those of the word, so the word is
assembled from them. -/
theorem encodeOfDecode : Obligations.EncodeOfDecode := by
  unfold Obligations.EncodeOfDecode
  intro ws rest i h
  cases ws with
  | nil => cases h
  | cons word tail =>
    obtain ⟨f, hf, rfl, rfl⟩ := decode_cons_eq_ok.1 h
    obtain ⟨hfields, -⟩ := formatOf_eq_some.1 hf
    rw [encode_eq, format_instr, hfields, assemble_fieldsOf, List.cons_append]

/-! ## The configured decoder -/

/-- What the decoder under an assignment of codes reads from a first word. -/
theorem decodeWith_cons_eq_ok {c : Codes} {word : Word} {tail rest : List Word} {i : Instr} :
    decodeWith c (word :: tail) = .ok i rest ↔
      ∃ f, formatWith c word (tail.headD 0) = some f ∧ f.instr = i ∧
        tail = f.immediate.toList ++ rest :=
  readInstr_cons_eq_ok fun _ _ hf => (mem_readings.1 (formatWith_eq_some.1 hf).1).2

/-- The words an assignment of codes gives to the instruction of a format. -/
theorem encodeWith_instr (c : Codes) (f : Format) :
    encodeWith c f.instr = (f.fieldsWith c).assemble :: f.immediate.toList := by
  rw [encodeWith, format_instr]

/-- An immediate word that stands next in the stream is determined by whether there is one. -/
theorem toList_eq_of_getD {o o' : Option Word} {imm : Word} (ho : o.getD imm = imm)
    (ho' : o'.getD imm = imm) (hlen : o.toList.length = o'.toList.length) : o.toList = o'.toList := by
  cases o with
  | none =>
    cases o' with
    | none => rfl
    | some v => cases hlen
  | some v =>
    cases o' with
    | none => cases hlen
    | some v' =>
      obtain rfl : v = imm := ho
      obtain rfl : v' = v := ho'
      rfl

/-- Settles O60: a word's only reading has the word's fields; and another reading of the first word
of `i` would have as many words, hence the same words. -/
theorem anyCodesDecodeAndEncodeAgree : Obligations.AnyCodesDecodeAndEncodeAgree := by
  unfold Obligations.AnyCodesDecodeAndEncodeAgree
  refine fun c => ⟨fun ws rest i h => ?_, fun i rest hwords hlength => ?_⟩
  · cases ws with
    | nil => cases h
    | cons word tail =>
      obtain ⟨f, hf, rfl, rfl⟩ := decodeWith_cons_eq_ok.1 h
      obtain ⟨hfields, -⟩ := mem_readings.1 (formatWith_eq_some.1 hf).1
      rw [encodeWith_instr, hfields, assemble_fieldsOf, List.cons_append]
  · rw [← instr_format i] at hwords hlength ⊢
    generalize i.format = f at hwords hlength ⊢
    have himm := getD_headD_append f.immediate rest
    rw [encodeWith_instr, List.cons_append, decodeWith_cons_eq_ok]
    refine ⟨f, formatWith_eq_some.2 ⟨?_, fun g hg => ?_⟩, rfl, rfl⟩
    · exact mem_readings.2 ⟨(fieldsOf_assemble _).symm, himm⟩
    · obtain ⟨hgfields, hgimm⟩ := mem_readings.1 hg
      rw [fieldsOf_assemble] at hgfields
      have hlen := hlength g.instr (by rw [encodeWith_instr, encodeWith_instr, hgfields]; rfl)
      rw [encodeWith_instr, encodeWith_instr, List.length_cons, List.length_cons] at hlen
      have hlist := toList_eq_of_getD hgimm himm (Nat.succ_injective hlen)
      have hinstr := hwords g.instr (by rw [encodeWith_instr, encodeWith_instr, hgfields, hlist])
      rw [← format_instr g, hinstr, format_instr]

/-- Under the default codes the one reading of a word is the format that the quadrant decoder finds.
-/
theorem formatWith_standard (word imm : Word) : formatWith .standard word imm = formatOf word imm := by
  apply Option.ext
  intro f
  have hread (g : Format) : g ∈ readings .standard word imm ↔ formatOf word imm = some g :=
    mem_readings.trans formatOf_eq_some.symm
  rw [formatWith_eq_some, hread]
  exact ⟨And.left, fun hf => ⟨hf, fun g hg => Option.some.inj (((hread g).1 hg).symm.trans hf)⟩⟩

/-- The default configuration reads as the default decoder. -/
theorem decodeWith_standard : decodeWith .standard = decode :=
  congrArg readInstr (funext fun word => funext (formatWith_standard word))

/-- Under the default codes the search for the condition on T(4:1) is the table of R106. -/
theorem find_testCond_standard (t : BitVec 4) :
    TestCond.all.find? (fun cond => (Codes.standard.testCond cond).extractLsb' 1 4 == t) =
      TestCond.ofCode (t ++ 0#1) := by
  revert t
  decide

/-- Settles O59: decoder and effects are the configured ones, so the step is. -/
theorem defaultConfigurationIsThisMachine : Obligations.DefaultConfigurationIsThisMachine := by
  unfold Obligations.DefaultConfigurationIsThisMachine
  have hexec : Machine.execWith Machine.Configuration.standard.params = Machine.exec :=
    funext fun i => funext fun s => (Machine.exec_eq_execWith i s).symm
  refine ⟨fun ws => congrFun decodeWith_standard ws, fun i => rfl,
    fun i s => congrFun (congrFun hexec i) s, fun s => ?step, rfl, fun t st => ?ct⟩
  case step =>
    calc Machine.stepWith .standard s
        = Machine.stepBy (decodeWith .standard)
            (Machine.execWith Machine.Configuration.standard.params) s := rfl
      _ = Machine.step s := by rw [decodeWith_standard, hexec, Machine.step]
  case ct => exact congrArg (Option.map _) (find_testCond_standard t)

/-! ## Words that are no instruction, and words that are missing -/

/-- A first word that is a format's stays one with any next word: the form that takes I takes the
next word, every other form ignores it. -/
theorem exists_readAs (f : Format) (imm : Word) :
    ∃ g, ReadAs g f.fields imm ∧ g.immediate.isSome = f.immediate.isSome := by
  cases f with
  | sor op form w a =>
    cases form with
    | soir v => exact ⟨.sor op (.soir imm) w a, ⟨rfl, rfl⟩, rfl⟩
    | _ => exact ⟨_, ⟨rfl, rfl⟩, rfl⟩
  | sonr op src dst w =>
    cases src with
    | soi v => exact ⟨.sonr op (.soi imm) dst w, ⟨rfl, rfl⟩, rfl⟩
    | _ => exact ⟨_, ⟨rfl, rfl⟩, rfl⟩
  | tor1 form op w a =>
    cases form with
    | toria v => exact ⟨.tor1 (.toria imm) op w a, ⟨rfl, rfl⟩, rfl⟩
    | toriy v => exact ⟨.tor1 (.toriy imm) op w a, ⟨rfl, rfl⟩, rfl⟩
    | torir v => exact ⟨.tor1 (.torir imm) op w a, ⟨rfl, rfl⟩, rfl⟩
    | _ => exact ⟨_, ⟨rfl, rfl⟩, rfl⟩
  | tor2 form op w a =>
    cases form with
    | toair v => exact ⟨.tor2 (.toair imm) op w a, ⟨rfl, rfl⟩, rfl⟩
    | todir v => exact ⟨.tor2 (.todir imm) op w a, ⟨rfl, rfl⟩, rfl⟩
    | todar => exact ⟨_, ⟨rfl, rfl⟩, rfl⟩
  | tonr form op dst w =>
    cases form with
    | toai v => exact ⟨.tonr (.toai imm) op dst w, ⟨rfl, rfl⟩, rfl⟩
    | todi v => exact ⟨.tonr (.todi imm) op dst w, ⟨rfl, rfl⟩, rfl⟩
    | toda => exact ⟨_, ⟨rfl, rfl⟩, rfl⟩
  | rotc form w n a =>
    cases form with
    | cdai v => exact ⟨.rotc (.cdai imm) w n a, ⟨rfl, rfl⟩, rfl⟩
    | cdri v => exact ⟨.rotc (.cdri imm) w n a, ⟨rfl, rfl⟩, rfl⟩
    | crai v => exact ⟨.rotc (.crai imm) w n a, ⟨rfl, rfl⟩, rfl⟩
    | cdra => exact ⟨_, ⟨rfl, rfl⟩, rfl⟩
  | rotm form w n a =>
    cases form with
    | mdai v => exact ⟨.rotm (.mdai imm) w n a, ⟨rfl, rfl⟩, rfl⟩
    | mdri v => exact ⟨.rotm (.mdri imm) w n a, ⟨rfl, rfl⟩, rfl⟩
    | mari v => exact ⟨.rotm (.mari imm) w n a, ⟨rfl, rfl⟩, rfl⟩
    | mrai v => exact ⟨.rotm (.mrai imm) w n a, ⟨rfl, rfl⟩, rfl⟩
    | mdar | mdra => exact ⟨_, ⟨rfl, rfl⟩, rfl⟩
  | prt2 mask dst w a =>
    cases mask with
    | pri v => exact ⟨.prt2 (.pri imm) dst w a, ⟨rfl, rfl⟩, rfl⟩
    | pra | prz => exact ⟨_, ⟨rfl, rfl⟩, rfl⟩
  | prt3 mask src w a =>
    cases mask with
    | pri v => exact ⟨.prt3 (.pri imm) src w a, ⟨rfl, rfl⟩, rfl⟩
    | pra | prz => exact ⟨_, ⟨rfl, rfl⟩, rfl⟩
  | prtnr mask src dst w =>
    cases mask with
    | pri v => exact ⟨.prtnr (.pri imm) src dst w, ⟨rfl, rfl⟩, rfl⟩
    | pra | prz => exact ⟨_, ⟨rfl, rfl⟩, rfl⟩
  | _ => exact ⟨_, ⟨rfl, rfl⟩, rfl⟩

/-- A word that is a format's has a format with any next word, with an immediate word as the format.
-/
theorem exists_formatOf {f : Format} {word : Word} (hf : f.fields.assemble = word) (imm : Word) :
    ∃ g, formatOf word imm = some g ∧ g.immediate.isSome = f.immediate.isSome := by
  obtain ⟨g, hg, hsome⟩ := exists_readAs f imm
  subst hf
  exact ⟨g, formatOf_eq_some.2 ((fieldsOf_assemble f.fields).symm ▸ hg), hsome⟩

/-- The first word of an instruction, from the instruction's format. -/
theorem head?_encode_eq_some {i : Instr} {word : Word} :
    (encode i).head? = some word ↔ i.format.fields.assemble = word := by
  rw [encode_eq, List.head?_cons, Option.some.injEq]

/-- A word is the first of no instruction exactly where it has no format. -/
theorem matchesNoRow_iff {word imm : Word} : MatchesNoRow word ↔ formatOf word imm = none := by
  rw [MatchesNoRow, Option.eq_none_iff_forall_ne_some]
  constructor
  · intro h f hf
    obtain ⟨hfields, -⟩ := formatOf_eq_some.1 hf
    refine h f.instr (head?_encode_eq_some.2 ?_)
    rw [format_instr, hfields, assemble_fieldsOf]
  · intro h i hi
    obtain ⟨g, hg, -⟩ := exists_formatOf (head?_encode_eq_some.1 hi) imm
    exact h g hg

/-- The default decoder rejects a first word exactly where it has no format. -/
theorem decode_cons_eq_undecodable {word w : Word} {tail : List Word} :
    decode (word :: tail) = .undecodable w ↔ formatOf word (tail.headD 0) = none ∧ w = word := by
  simp only [decode, readInstr]
  cases hf : formatOf word (tail.headD 0) with
  | none => simp [eq_comm]
  | some f => cases hv : f.immediate <;> cases tail <;> simp [hv]

/-- The default decoder misses an immediate word exactly in a last word whose format takes one. -/
theorem decode_cons_eq_immediateMissing {word : Word} {tail : List Word} :
    decode (word :: tail) = .immediateMissing ↔
      tail = [] ∧ ∃ f, formatOf word 0 = some f ∧ f.immediate.isSome = true := by
  simp only [decode, readInstr]
  cases tail with
  | nil =>
    rw [List.headD_nil]
    cases hf : formatOf word 0 with
    | none => simp
    | some f => cases hv : f.immediate <;> simp [hv]
  | cons x tail =>
    cases hf : formatOf word ((x :: tail).headD 0) with
    | none => simp
    | some f => cases hv : f.immediate <;> simp [hv]

/-- The words of a two-word instruction, from its format. -/
theorem encode_eq_pair {i : Instr} {word imm : Word} :
    encode i = [word, imm] ↔ i.format.fields.assemble = word ∧ i.format.immediate = some imm := by
  rw [encode_eq]
  cases i.format.immediate <;> simp

/-- A word's format takes an immediate word exactly where the word is the first of two. -/
theorem exists_encode_eq_pair {word : Word} :
    (∃ i imm, encode i = [word, imm]) ↔ ∃ f, formatOf word 0 = some f ∧ f.immediate.isSome = true := by
  constructor
  · rintro ⟨i, imm, hi⟩
    obtain ⟨hword, himm⟩ := encode_eq_pair.1 hi
    obtain ⟨g, hg, hsome⟩ := exists_formatOf hword 0
    exact ⟨g, hg, by rw [hsome, himm]; rfl⟩
  · rintro ⟨f, hf, hsome⟩
    obtain ⟨imm, himm⟩ := Option.isSome_iff_exists.1 hsome
    obtain ⟨hfields, -⟩ := formatOf_eq_some.1 hf
    refine ⟨f.instr, imm, encode_eq_pair.2 ⟨?_, ?_⟩⟩
    · rw [format_instr, hfields, assemble_fieldsOf]
    · rw [format_instr, himm]

/-- Words are rejected for their first word exactly where it begins no instruction. -/
theorem decode_eq_undecodable {ws : List Word} {word : Word} :
    decode ws = .undecodable word ↔ ∃ rest, ws = word :: rest ∧ MatchesNoRow word := by
  cases ws with
  | nil => exact ⟨nofun, by rintro ⟨rest, h, -⟩; cases h⟩
  | cons head tail =>
    rw [decode_cons_eq_undecodable, ← matchesNoRow_iff]
    constructor
    · rintro ⟨hrow, rfl⟩
      exact ⟨tail, rfl, hrow⟩
    · rintro ⟨rest, hws, hrow⟩
      cases hws
      exact ⟨hrow, rfl⟩

/-- An immediate word is missing exactly where the one word left is the first of two. -/
theorem decode_eq_immediateMissing {ws : List Word} :
    decode ws = .immediateMissing ↔ ∃ i word imm, ws = [word] ∧ encode i = [word, imm] := by
  cases ws with
  | nil => exact ⟨nofun, by rintro ⟨i, word, imm, h, -⟩; cases h⟩
  | cons word tail =>
    rw [decode_cons_eq_immediateMissing, ← exists_encode_eq_pair]
    constructor
    · rintro ⟨rfl, i, imm, hi⟩
      exact ⟨i, word, imm, rfl, hi⟩
    · rintro ⟨i, _, imm, hws, hi⟩
      cases hws
      exact ⟨rfl, i, imm, hi⟩

/-- There is no word to read exactly at the end. -/
theorem decode_eq_noWord {ws : List Word} : decode ws = .noWord ↔ ws = [] := by
  cases ws with
  | nil => exact ⟨fun _ => rfl, fun _ => rfl⟩
  | cons word tail =>
    refine ⟨fun h => ?_, nofun⟩
    simp only [decode, readInstr] at h
    split at h
    · cases h
    · split at h <;> cases h

/-- Settles O3: an instruction's first word has a format whatever follows it, and that format takes
an immediate word where the instruction does. -/
theorem decodeRejectsExactly : Obligations.DecodeRejectsExactly := by
  unfold Obligations.DecodeRejectsExactly
  refine ⟨fun word rest => ?_, fun ws => decode_eq_immediateMissing, fun ws => decode_eq_noWord⟩
  rw [decode_cons_eq_undecodable, ← matchesNoRow_iff]
  exact and_iff_left rfl

/-! ## One word or two -/

/-- The forms of R391 are those whose format carries an immediate word. -/
theorem takesImmediate_eq_isSome (f : Format) : takesImmediate f = f.immediate.isSome := by
  cases f with
  | sor op form w a => cases form <;> rfl
  | sonr op src dst w => cases src <;> rfl
  | tor1 form op w a => cases form <;> rfl
  | tor2 form op w a => cases form <;> rfl
  | tonr form op dst w => cases form <;> rfl
  | rotc form w n a => cases form <;> rfl
  | rotm form w n a => cases form <;> rfl
  | prt2 mask dst w a => cases mask <;> rfl
  | prt3 mask src w a => cases mask <;> rfl
  | prtnr mask src dst w => cases mask <;> rfl
  | _ => rfl

/-- The number of words of an instruction. -/
theorem length_encode (i : Instr) :
    (encode i).length = if i.format.immediate.isSome then 2 else 1 := by
  rw [encode_eq]
  cases i.format.immediate <;> rfl

/-- Settles O4: two instructions with one first word give that word the same format before the word
0, which takes an immediate word as each of them does. -/
theorem immediateFormsHaveTwoWords : Obligations.ImmediateFormsHaveTwoWords := by
  unfold Obligations.ImmediateFormsHaveTwoWords
  refine ⟨fun i => ?_, fun i j h => ?_⟩
  · rw [length_encode, takesImmediate_eq_isSome]
  · obtain ⟨g, hg, hi⟩ := exists_formatOf (head?_encode_eq_some.1 h) 0
    obtain ⟨g', hg', hj⟩ := exists_formatOf (f := j.format) rfl 0
    obtain rfl := Option.some.inj (hg.symm.trans hg')
    rw [length_encode, length_encode, ← hi, ← hj]

/-- Settles O6: each list of words is what the encoder writes for the instruction beside it. -/
theorem specWordsDecode : Obligations.SpecWordsDecode := by
  unfold Obligations.SpecWordsDecode
  intro p hp
  have hencode : encode p.2 = p.1 := by revert p; decide
  rw [← hencode, ← decodeOfEncode p.2 [], List.append_nil]

end Sys2Proof.Encoding

/-! # What an instruction can do

Every instruction is refused, for one of two reasons (R233, R316), or writes one value of its width
to its destination, sets РгС, the outputs and the index, and nothing else. `exists_effect`
says so once for each format, together with what the written values depend on; the rules about the
whole machine follow from it without another look at the formats. -/

namespace Sys2Proof.Effects

open Sys2Proof.Machine Sys2Proof.Claims

/-! ## Effects -/

/-- What an instruction of width `w` does to a state: the value it writes and where, РгС, the
outputs, the words it takes. -/
structure Effect (w : Width) where
  dst : Dst
  value : BitVec w.bits
  st : Status
  y : Word
  ct : Bool
  words : Nat

section
variable {w : Width} (e : Effect w) (s : State)

/-- A state after an effect. -/
def Effect.on : State := ({ s.write w e.dst e.value with st := e.st }).finish e.y e.ct e.words

@[simp] theorem Effect.on_st : (e.on s).st = e.st := rfl
@[simp] theorem Effect.on_y : (e.on s).y = e.y := rfl
@[simp] theorem Effect.on_prog : (e.on s).prog = s.prog := s.write_prog w e.dst e.value
@[simp] theorem Effect.on_ip : (e.on s).ip = s.ip + e.words :=
  congrArg (· + e.words) (s.write_ip w e.dst e.value)
@[simp] theorem Effect.on_dFeed : (e.on s).dFeed = s.dFeed := s.write_dFeed w e.dst e.value
@[simp] theorem Effect.on_draws : (e.on s).draws = s.draws + 1 :=
  congrArg (· + 1) (s.write_draws w e.dst e.value)
theorem Effect.on_acc : (e.on s).acc =
    if e.dst = .acc ∨ e.dst = .accSt then writeW w s.acc e.value else s.acc :=
  s.write_acc w e.dst e.value
theorem Effect.on_reg (b : Reg) : (e.on s).reg b =
    if e.dst = .reg b then writeW w (s.reg b) e.value else s.reg b :=
  s.write_reg b w e.dst e.value
theorem Effect.on_d : (e.on s).d = if e.dst = .d then writeW w s.d e.value else s.d :=
  s.write_d w e.dst e.value

/-- An effect overwrites the outputs (R28, R29). -/
theorem Effect.on_outputs (y : Word) (ct : Bool) : e.on { s with y := y, ct := ct } = e.on s := by
  obtain ⟨dst, value, st, y', ct', words⟩ := e
  cases dst <;> rfl

end

/-! ## What an instruction reads -/

/-- Two states that give an instruction of width `w` the same operands, flags and free values. -/
structure SameInputs (w : Width) (s t : State) : Prop where
  operand : ∀ src, s.operand w src = t.operand w src
  st : s.st = t.st
  draws : s.draws = t.draws

theorem SameInputs.refl (w : Width) (s : State) : SameInputs w s s := ⟨fun _ => rfl, rfl, rfl⟩

/-- Y and CT are no inputs of an instruction. -/
theorem sameInputs_outputs (w : Width) (s : State) (y : Word) (ct : Bool) :
    SameInputs w s { s with y := y, ct := ct } :=
  ⟨fun src => by cases src <;> rfl, rfl, rfl⟩

/-- An operand of width `w` in word mode is the whole source. -/
theorem operand_word (s : State) (src : Src) : s.operand .word src = s.read src := BitVec.setWidth_eq _

theorem SameInputs.read {s t : State} (h : SameInputs .word s t) (src : Src) :
    s.read src = t.read src := by
  rw [← operand_word, h.operand, operand_word]

/-! ## Width, destination and flags of a format -/

/-- The operating width: the B/W field, and words where bit 15 is fixed (R75). -/
def opWidth (f : Format) : Width := (widthField f).getD .word

/-- The destination of a format (R77). -/
def destination (f : Format) : Dst :=
  match f with
  | .sor _ form _ a => form.dst a
  | .sonr _ _ dst _ => dst.dst
  | .tor1 form _ _ a => form.dst a
  | .tonr _ _ dst _ => dst.dst
  | .tor2 _ _ _ a | .shftr _ _ _ a | .bor2 _ _ _ a | .rotr2 _ _ _ a | .prt3 _ _ _ a
  | .crcf a | .crcr a | .svstr _ a => .reg a
  | .shftnr _ _ dst _ | .prtnr _ _ dst _ | .svstnr dst _ => dst.dst
  | .bor1 op _ _ a =>
    match op with
    | .setnr | .rstnr => .reg a
    | .tstnr => .y
  | .bonr op _ _ =>
    match op with
    | .rstna | .setna | .a2na | .s2na | .ld2na | .ldc2na => .acc
    | .tstna | .tstnd | .rstnd | .setnd | .a2ndy | .s2ndy | .ld2ny | .ldc2ny => .y
  | .rotr1 form _ _ a => form.dst a
  | .rotnr form _ _ => form.dst
  | .rotm form _ _ a => form.dst a
  | .prt1 dst _ _ a => dst.dst a
  | .prt2 _ dst _ _ => dst.dst
  | .rotc _ _ _ _ | .setst _ | .rstst _ | .tstst _ | .nop => .y

/-- Only a register-file entry that the format names is a destination. -/
theorem addressField_of_destination {f : Format} {b : Reg} (h : destination f = .reg b) :
    addressField f = some b := by
  cases f with
  | sor op form w a => cases form <;> cases h <;> rfl
  | sonr op src dst w => cases dst <;> cases h
  | tor1 form op w a => cases form <;> cases h <;> rfl
  | tonr form op dst w => cases dst <;> cases h
  | shftnr src op dst w => cases dst <;> cases h
  | bor1 op w n a => cases op <;> cases h <;> rfl
  | bonr op w n => cases op <;> cases h
  | rotr1 form w n a =>
    cases form <;> cases h
    rfl
  | rotnr form w n => cases form <;> cases h
  | rotm form w n a => cases form <;> cases h <;> rfl
  | prt1 dst src w a =>
    cases dst <;> cases h
    rfl
  | prt2 mask dst w a => cases dst <;> cases h
  | prtnr mask src dst w => cases dst <;> cases h
  | svstnr dst w => cases dst <;> cases h
  | rotc | setst | rstst | tstst | nop => cases h
  | tor2 | shftr | bor2 | rotr2 | prt3 | crcf | crcr | svstr => cases h; rfl

/-- Which formats write Акк (R21), which load РгС (R35), and that none writes Рг.D (R252 at its
default), all told by the destination. -/
theorem destination_facts (f : Format) :
    writesAccumulator f = decide (destination f = .acc ∨ destination f = .accSt) ∧
      loadsStatus f = (destination f).loadsStatus ∧ destination f ≠ .d := by
  cases f with
  | sor op form w a => cases form <;> exact ⟨rfl, rfl, nofun⟩
  | sonr op src dst w => cases dst <;> exact ⟨rfl, rfl, nofun⟩
  | tor1 form op w a => cases form <;> exact ⟨rfl, rfl, nofun⟩
  | tonr form op dst w => cases dst <;> exact ⟨rfl, rfl, nofun⟩
  | shftnr src op dst w => cases dst <;> exact ⟨rfl, rfl, nofun⟩
  | bor1 op w n a => cases op <;> exact ⟨rfl, rfl, nofun⟩
  | bonr op w n => cases op <;> exact ⟨rfl, rfl, nofun⟩
  | rotr1 form w n a => cases form <;> exact ⟨rfl, rfl, nofun⟩
  | rotnr form w n => cases form <;> exact ⟨rfl, rfl, nofun⟩
  | rotm form w n a => cases form <;> exact ⟨rfl, rfl, nofun⟩
  | prt1 dst src w a => cases dst <;> exact ⟨rfl, rfl, nofun⟩
  | prt2 mask dst w a => cases dst <;> exact ⟨rfl, rfl, nofun⟩
  | prtnr mask src dst w => cases dst <;> exact ⟨rfl, rfl, nofun⟩
  | svstnr dst w => cases dst <;> exact ⟨rfl, rfl, nofun⟩
  | _ => exact ⟨rfl, rfl, nofun⟩

theorem writesAccumulator_eq (f : Format) :
    writesAccumulator f = decide (destination f = .acc ∨ destination f = .accSt) :=
  (destination_facts f).1

theorem loadsStatus_eq (f : Format) : loadsStatus f = (destination f).loadsStatus :=
  (destination_facts f).2.1

theorem destination_ne_d (f : Format) : destination f ≠ .d := (destination_facts f).2.2

/-- FL1, FL2 and FL3 stay. -/
structure SameUserFlags (st st' : Status) : Prop where
  fl1 : st'.fl1 = st.fl1
  fl2 : st'.fl2 = st.fl2
  fl3 : st'.fl3 = st.fl3

/-- What an instruction of the format `f` may do to РгС: which bits stay (R25, R362). -/
structure FlagsFollow (f : Format) (st st' : Status) : Prop where
  user : setsOrResetsStatus f = false → loadsStatus f = false → SameUserFlags st st'
  link : shiftsThroughLink f = false → setsOrResetsStatus f = false → loadsStatus f = false →
    st'.l = st.l
  kept : keepsStatus f = true → st' = st

/-- The effect of the instruction of a format on a state, and on every state with the same inputs.
-/
structure IsEffect (f : Format) (s : State) (e : Effect (opWidth f)) : Prop where
  run : ∀ t, SameInputs (opWidth f) s t → run f t = .next (e.on t)
  dst : e.dst = destination f
  words : e.words = f.words.length
  flags : FlagsFollow f s.st e.st

/-! ## Operations on the operands leave L and the user flags -/

/-- L and FL1 to FL3 stay: the flags that no result sets. -/
structure SameOtherFlags (st st' : Status) : Prop extends SameUserFlags st st' where
  l : st'.l = st.l

theorem logicResult_sameOtherFlags {k : Nat} (v : BitVec k) (st : Status) :
    SameOtherFlags st (logicResult v st).st := ⟨⟨rfl, rfl, rfl⟩, rfl⟩

theorem singleOp_sameOtherFlags {k : Nat} (op : SingleOp) (v : BitVec k) (st : Status) :
    SameOtherFlags st (singleOp op v st).st := by
  cases op <;> exact ⟨⟨rfl, rfl, rfl⟩, rfl⟩

theorem twoOp_sameOtherFlags {k : Nat} (draw : Nat) (op : TwoOp) (u v : BitVec k) (st : Status) :
    SameOtherFlags st (twoOp parameters draw op u v st).st := by
  cases op <;> exact ⟨⟨rfl, rfl, rfl⟩, rfl⟩

theorem bitOp_sameOtherFlags {k : Nat} (kind : BitKind) (v b : BitVec k) (st : Status) :
    SameOtherFlags st (bitOp parameters false kind v b st).st := by
  cases kind <;> exact ⟨⟨rfl, rfl, rfl⟩, rfl⟩

/-- A shift leaves FL1 to FL3; L takes the bit shifted out (R203). -/
theorem shiftOp_sameUserFlags {k : Nat} (op : ShiftOp) (v : BitVec k) (st : Status) :
    SameUserFlags st (shiftOp op v st).st := by
  rw [Shifts.shiftOp_st]
  exact ⟨rfl, rfl, rfl⟩

/-! ## The bit number and the two sources -/

/-- A bit number that fits the width is the one the instruction works on (R233). -/
theorem bitNumber_of_fits {w : Width} {n : BitNo} (h : bitNumberFits w n = true) :
    bitNumber parameters w n = some n.toNat := by
  cases w with
  | word => rfl
  | byte => exact if_pos (of_decide_eq_true h)

/-- A bit instruction whose bit number fits delivers its result (R233). -/
theorem runBit_of_fits {w : Width} {n : BitNo} (h : bitNumberFits w n = true) (kind : BitKind)
    (src : Src) (dst : Dst) (s : State) :
    runBit parameters false kind src dst w n s =
      s.deliver parameters w dst
        (bitOp parameters false kind (s.operand w src) (bitMask w.bits n.toNat) s.st) 1 := by
  rw [runBit, bitNumber_of_fits h]

/-- A bit instruction in byte mode with n above 7 is refused (R233 at its default). -/
theorem runBit_of_above {n : BitNo} (h : 7 < n.toNat) (clearCarry : Bool) (kind : BitKind) (src : Src)
    (dst : Dst) (s : State) :
    runBit parameters clearCarry kind src dst .byte n s = .refused .bitNumberAbove7 := by
  have hnone : bitNumber parameters .byte n = none := if_neg (by omega)
  rw [runBit, hnone]

/-- The result of a prioritize instruction with the mask `mask` and the source `src` (R311, R312).
-/
def prioritized (mask src : Src) (w : Width) (s : State) : AluResult w.bits :=
  logicResult (prioCode parameters s.draws (s.operand w src &&& ~~~s.operand w mask)) s.st

/-- A prioritize instruction with different sources delivers its code (R312). -/
theorem runPrioritize_of_ne {mask src : Src} (h : mask ≠ src) (dst : Dst) (w : Width) (s : State) :
    runPrioritize parameters mask src dst w s =
      s.deliver parameters w dst (prioritized mask src w s) mask.instrWords :=
  if_neg h

/-! ## The effect of each format -/

/-- A format whose instruction delivers a result that depends on its inputs alone. -/
theorem exists_effect_of_deliver {f : Format} (s : State)
    (res : State → AluResult (opWidth f).bits)
    (hrun : ∀ t, run f t =
      t.deliver parameters (opWidth f) (destination f) (res t) f.words.length)
    (hres : ∀ t, SameInputs (opWidth f) s t → res t = res s)
    (huser : SameUserFlags s.st (res s).st)
    (hlink : shiftsThroughLink f = false → (res s).st.l = s.st.l) (hkept : keepsStatus f = false) :
    ∃ e, IsEffect f s e := by
  have hstatus : loadsStatus f = false →
      statusAfter parameters (opWidth f) (destination f) (res s) s.st = (res s).st :=
    fun h => statusAfter_flags _ _ _ _ _ ((loadsStatus_eq f).symm.trans h)
  refine ⟨⟨destination f, (res s).value, statusAfter parameters _ (destination f) (res s) s.st,
    yBus _ (res s).value (Config.freeYHigh s.draws), Config.freeCT s.draws, f.words.length⟩,
    fun t h => ?run, rfl, rfl, fun _ h => ?user, fun h _ h' => ?link, fun h => ?kept⟩
  case run => rw [hrun, hres t h, h.st, h.draws]; rfl
  case user => exact (hstatus h).symm ▸ huser
  case link => exact (hstatus h').symm ▸ hlink h
  case kept => exact absurd h (by simp [hkept])

/-- A format that is neither a shift nor a CRC step: its result leaves L as well. -/
theorem exists_effect_of_result {f : Format} (s : State)
    (res : State → AluResult (opWidth f).bits)
    (hrun : ∀ t, run f t =
      t.deliver parameters (opWidth f) (destination f) (res t) f.words.length)
    (hres : ∀ t, SameInputs (opWidth f) s t → res t = res s)
    (hother : SameOtherFlags s.st (res s).st) (hkept : keepsStatus f = false) : ∃ e, IsEffect f s e :=
  exists_effect_of_deliver s res hrun hres hother.toSameUserFlags (fun _ => hother.l) hkept

/-- A format that runs an operation on one operand. -/
theorem exists_effect_of_single {f : Format} (s : State) {op : SingleOp} {src : Src}
    (hrun : ∀ t, run f t = runSingle parameters op src (destination f) (opWidth f) t)
    (hwords : f.words.length = src.instrWords) (hkept : keepsStatus f = false) :
    ∃ e, IsEffect f s e := by
  refine exists_effect_of_result s (fun t => singleOp op (t.operand _ src) t.st)
    (fun t => ?_) (fun t h => ?_) (singleOp_sameOtherFlags ..) hkept
  · rw [hrun, hwords]; rfl
  · simp only [h.operand, h.st]

/-- A format that runs an operation on two operands. -/
theorem exists_effect_of_two {f : Format} (s : State) {op : TwoOp} {u v : Src}
    (hrun : ∀ t, run f t = runTwo parameters op u v (destination f) (opWidth f) t)
    (hwords : f.words.length = v.instrWords) (hkept : keepsStatus f = false) :
    ∃ e, IsEffect f s e := by
  refine exists_effect_of_result s
    (fun t => twoOp parameters t.draws op (t.operand _ u) (t.operand _ v) t.st)
    (fun t => ?_) (fun t h => ?_) (twoOp_sameOtherFlags ..) hkept
  · rw [hrun, hwords]; rfl
  · simp only [h.operand, h.st, h.draws]

/-- A format that runs a bit operation with a number that fits. -/
theorem exists_effect_of_bit {f : Format} (s : State) {n : BitNo} {kind : BitKind} {src : Src}
    (hfits : bitNumberFits (opWidth f) n = true)
    (hrun : ∀ t, run f t = runBit parameters false kind src (destination f) (opWidth f) n t)
    (hwords : f.words.length = 1) (hkept : keepsStatus f = false) : ∃ e, IsEffect f s e := by
  refine exists_effect_of_result s
    (fun t => bitOp parameters false kind (t.operand _ src) (bitMask _ n.toNat) t.st)
    (fun t => ?_) (fun t h => ?_) (bitOp_sameOtherFlags ..) hkept
  · rw [hrun, runBit_of_fits hfits, hwords]
  · simp only [h.operand, h.st]

/-- A format that runs a rotate. -/
theorem exists_effect_of_rotate {f : Format} (s : State) {n : BitNo} {src : Src}
    (hrun : ∀ t, run f t = runRotate parameters src (destination f) (opWidth f) n t)
    (hwords : f.words.length = 1) (hkept : keepsStatus f = false) : ∃ e, IsEffect f s e := by
  refine exists_effect_of_result s (fun t => logicResult (rotl (t.operand _ src) n) t.st)
    (fun t => ?_) (fun t h => ?_) (logicResult_sameOtherFlags ..) hkept
  · rw [hrun, hwords]; rfl
  · simp only [h.operand, h.st]

/-- A format that prioritizes with different sources. -/
theorem exists_effect_of_prioritize {f : Format} (s : State) {mask src : Src} (hne : mask ≠ src)
    (hrun : ∀ t, run f t = runPrioritize parameters mask src (destination f) (opWidth f) t)
    (hwords : f.words.length = mask.instrWords) (hkept : keepsStatus f = false) :
    ∃ e, IsEffect f s e := by
  refine exists_effect_of_result s (prioritized mask src _)
    (fun t => ?_) (fun t h => ?_) (logicResult_sameOtherFlags ..) hkept
  · rw [hrun, runPrioritize_of_ne hne, hwords]
  · simp only [prioritized, h.operand, h.st, h.draws]

/-- A format that runs a shift. -/
theorem exists_effect_of_shift {f : Format} (s : State) {op : ShiftOp} {src : Src}
    (hrun : ∀ t, run f t = runShift parameters op src (destination f) (opWidth f) t)
    (hwords : f.words.length = 1) (hlink : shiftsThroughLink f = true)
    (hkept : keepsStatus f = false) : ∃ e, IsEffect f s e := by
  refine exists_effect_of_deliver s (fun t => shiftOp op (t.operand _ src) t.st)
    (fun t => ?_) (fun t h => ?_) (shiftOp_sameUserFlags ..) (by simp [hlink]) hkept
  · rw [hrun, hwords]; rfl
  · simp only [h.operand, h.st]

/-- A format that saves РгС: the value written is the byte of РгС (R371). -/
theorem exists_effect_of_save {f : Format} (s : State)
    (hrun : ∀ t, run f t = runSave parameters (destination f) (opWidth f) t)
    (hwords : f.words.length = 1) : ∃ e, IsEffect f s e := by
  refine ⟨⟨destination f, loW _ ((s.st.toByte parameters.stLayout).setWidth 16), s.st,
    (s.st.toByte parameters.stLayout).setWidth 16, Config.freeCT s.draws, 1⟩,
    fun t h => ?_, rfl, hwords.symm, fun _ _ => ⟨rfl, rfl, rfl⟩, fun _ _ _ => rfl, fun _ => rfl⟩
  rw [hrun, h.st, h.draws]
  generalize destination f = dst
  cases dst <;> rfl

/-- A format that writes no register, but for РгС where it is SETST or RSTST. -/
theorem exists_effect_of_finish {f : Format} (s : State) (st : State → Status) (y : State → Word)
    (ct : State → Bool)
    (hrun : ∀ t, run f t = .next (({ t with st := st t }).finish (y t) (ct t) 1))
    (hinputs : ∀ t, SameInputs (opWidth f) s t → st t = st s ∧ y t = y s ∧ ct t = ct s)
    (hdst : destination f = .y) (hwords : f.words.length = 1)
    (hflags : setsOrResetsStatus f = false → st s = s.st) (hkept : keepsStatus f = true → st s = s.st) :
    ∃ e, IsEffect f s e := by
  refine ⟨⟨.y, 0, st s, y s, ct s, 1⟩, fun t h => ?_, hdst.symm, hwords.symm,
    fun h _ => ?_, fun _ h _ => ?_, hkept⟩
  · obtain ⟨hst, hy, hct⟩ := hinputs t h
    rw [hrun, hst, hy, hct]; rfl
  · exact (hflags h).symm ▸ ⟨rfl, rfl, rfl⟩
  · exact congrArg Status.l (hflags h)

/-- Every well-formed instruction has an effect, in every state. -/
theorem exists_effect {f : Format} (hwf : f.wellFormed = true) (s : State) : ∃ e, IsEffect f s e := by
  cases f with
  | sor op form w a => exact exists_effect_of_single s (fun _ => rfl) (by cases form <;> rfl) rfl
  | sonr op src dst w => exact exists_effect_of_single s (fun _ => rfl) (by cases src <;> rfl) rfl
  | tor1 form op w a => exact exists_effect_of_two s (fun _ => rfl) (by cases form <;> rfl) rfl
  | tor2 form op w a => exact exists_effect_of_two s (fun _ => rfl) (by cases form <;> rfl) rfl
  | tonr form op dst w => exact exists_effect_of_two s (fun _ => rfl) (by cases form <;> rfl) rfl
  | shftr form op w a => exact exists_effect_of_shift s (fun _ => rfl) rfl rfl rfl
  | shftnr src op dst w => exact exists_effect_of_shift s (fun _ => rfl) rfl rfl rfl
  | bor1 op w n a => cases op <;> exact exists_effect_of_bit s hwf (fun _ => rfl) rfl rfl
  | bor2 op w n a => cases op <;> exact exists_effect_of_bit s hwf (fun _ => rfl) rfl rfl
  | bonr op w n => cases op <;> exact exists_effect_of_bit s hwf (fun _ => rfl) rfl rfl
  | rotr1 form w n a => exact exists_effect_of_rotate s (fun _ => rfl) rfl rfl
  | rotr2 form w n a => exact exists_effect_of_rotate s (fun _ => rfl) rfl rfl
  | rotnr form w n => exact exists_effect_of_rotate s (fun _ => rfl) rfl rfl
  | rotc form w n a =>
    refine exists_effect_of_result s
      (fun t => logicResult (compareMasked (rotl (t.operand w (form.rotated a)) n)
        (t.operand w (form.fixed a)) (t.operand w form.mask)) t.st)
      (fun t => ?_) (fun t (h : SameInputs w s t) => ?_) (logicResult_sameOtherFlags ..) rfl
    · cases form <;> rfl
    · simp only [h.operand, h.st]
  | rotm form w n a =>
    refine exists_effect_of_result s
      (fun t => logicResult (mergeMasked (rotl (t.operand w (form.rotated a)) n)
        (t.operand w (form.fixed a)) (t.operand w (form.mask a))) t.st)
      (fun t => ?_) (fun t (h : SameInputs w s t) => ?_) (logicResult_sameOtherFlags ..) rfl
    · cases form <;> rfl
    · simp only [h.operand, h.st]
  | prt1 dst src w a =>
    have hne : Src.reg a ≠ src.src := by cases src <;> nofun
    exact exists_effect_of_prioritize s hne (fun _ => rfl) rfl rfl
  | prt2 mask dst w a =>
    have hne : mask.src ≠ .reg a := by cases mask <;> nofun
    exact exists_effect_of_prioritize s hne (fun _ => rfl) (by cases mask <;> rfl) rfl
  | prt3 mask src w a =>
    have hne : mask.src ≠ src.src a := by
      intro heq
      cases mask <;> cases src <;> cases heq
      cases hwf
    exact exists_effect_of_prioritize s hne (fun _ => rfl) (by cases mask <;> rfl) rfl
  | prtnr mask src dst w =>
    have hne : mask.src ≠ src.src := by
      intro heq
      cases mask <;> cases src <;> cases heq
      cases hwf
    exact exists_effect_of_prioritize s hne (fun _ => rfl) (by cases mask <;> rfl) rfl
  | crcf a =>
    refine exists_effect_of_deliver s (fun t => crcForward (t.read (.reg a)) (t.read .acc) t.st)
      (fun t => rfl) (fun t (h : SameInputs .word s t) => ?_) ⟨rfl, rfl, rfl⟩ nofun rfl
    rw [h.read, h.read, h.st]
  | crcr a =>
    refine exists_effect_of_deliver s (fun t => crcReverse (t.read (.reg a)) (t.read .acc) t.st)
      (fun t => rfl) (fun t (h : SameInputs .word s t) => ?_) ⟨rfl, rfl, rfl⟩ nofun rfl
    rw [h.read, h.read, h.st]
  | setst op =>
    exact exists_effect_of_finish s (fun t => setStatus op t.st) (fun _ => 0xFFFF)
      (fun t => Config.freeCT t.draws) (fun _ => rfl)
      (fun t h => ⟨by rw [h.st], rfl, by rw [h.draws]⟩) rfl rfl nofun nofun
  | rstst op =>
    exact exists_effect_of_finish s (fun t => resetStatus op t.st) (fun _ => 0x0000)
      (fun t => Config.freeCT t.draws) (fun _ => rfl)
      (fun t h => ⟨by rw [h.st], rfl, by rw [h.draws]⟩) rfl rfl nofun nofun
  | svstr w a => exact exists_effect_of_save s (fun _ => rfl) rfl
  | svstnr dst w => exact exists_effect_of_save s (fun _ => rfl) rfl
  | tstst cond =>
    exact exists_effect_of_finish s State.st (fun t => Config.freeY t.draws)
      (fun t => testCond cond t.st) (fun _ => rfl)
      (fun t h => ⟨h.st.symm, by rw [h.draws], by rw [h.st]⟩) rfl rfl (fun _ => rfl) fun _ => rfl
  | nop =>
    exact exists_effect_of_finish s State.st (fun t => Config.freeY t.draws)
      (fun t => Config.freeCT t.draws) (fun _ => rfl)
      (fun t h => ⟨h.st.symm, by rw [h.draws], by rw [h.draws]⟩) rfl rfl (fun _ => rfl) fun _ => rfl

/-! ## Refusals -/

/-- A format is well-formed unless R233 or R316 refuses it. -/
theorem wellFormed_eq (f : Format) : f.wellFormed = !(bitNumberTooHigh f || sameSources f) := by
  have hbyte (n : BitNo) : decide (n.toNat < 8) = !(decide (7 < n.toNat) || false) := by
    revert n; decide
  cases f with
  | bor1 op w n a =>
    cases w with
    | byte => exact hbyte n
    | word => rfl
  | bor2 op w n a =>
    cases w with
    | byte => exact hbyte n
    | word => rfl
  | bonr op w n =>
    cases w with
    | byte => exact hbyte n
    | word => rfl
  | prt3 mask src w a => cases mask <;> cases src <;> rfl
  | prtnr mask src dst w => cases mask <;> cases src <;> rfl
  | _ => rfl

/-- A byte-mode bit instruction with n above 7 is refused (R233). -/
theorem run_of_bitNumberTooHigh {f : Format} (h : bitNumberTooHigh f = true) (s : State) :
    run f s = .refused .bitNumberAbove7 := by
  cases f with
  | bor1 op w n a =>
    cases w with
    | byte => cases op <;> exact runBit_of_above (of_decide_eq_true h) ..
    | word => cases h
  | bor2 op w n a =>
    cases w with
    | byte => cases op <;> exact runBit_of_above (of_decide_eq_true h) ..
    | word => cases h
  | bonr op w n =>
    cases w with
    | byte => cases op <;> exact runBit_of_above (of_decide_eq_true h) ..
    | word => cases h
  | _ => cases h

/-- A prioritize instruction with Акк as operand and as mask is refused (R316). -/
theorem run_of_sameSources {f : Format} (h : sameSources f = true) (s : State) :
    run f s = .refused .sameSource := by
  cases f with
  | prt3 mask src w a => cases mask <;> cases src <;> cases h; rfl
  | prtnr mask src dst w => cases mask <;> cases src <;> cases h; rfl
  | _ => cases h

/-- Everything an instruction can do: complete with an effect, or be refused for one of two reasons.
-/
theorem exec_cases (i : Instr) (s : State) :
    (∃ e, IsEffect i.format s e ∧ exec i s = .next (e.on s)) ∨
    (bitNumberTooHigh i.format = true ∧ exec i s = .refused .bitNumberAbove7) ∨
    (sameSources i.format = true ∧ exec i s = .refused .sameSource) := by
  rw [exec_eq_run]
  by_cases hbit : bitNumberTooHigh i.format = true
  · exact .inr (.inl ⟨hbit, run_of_bitNumberTooHigh hbit s⟩)
  · by_cases hsame : sameSources i.format = true
    · exact .inr (.inr ⟨hsame, run_of_sameSources hsame s⟩)
    · have hwf : i.format.wellFormed = true := by simp [wellFormed_eq, hbit, hsame]
      obtain ⟨e, he⟩ := exists_effect hwf s
      exact .inl ⟨e, he, he.run s (.refl _ s)⟩

/-- An instruction that completes does so with its effect. -/
theorem exec_eq_next {i : Instr} {s t : State} (h : exec i s = .next t) :
    ∃ e, IsEffect i.format s e ∧ t = e.on s := by
  obtain ⟨e, he, hs⟩ | ⟨-, hs⟩ | ⟨-, hs⟩ := exec_cases i s <;> cases hs.symm.trans h
  exact ⟨e, he, rfl⟩

/-- No effect changes Рг.D. -/
theorem IsEffect.on_d {f : Format} {s : State} {e : Effect (opWidth f)} (he : IsEffect f s e)
    (t : State) : (e.on t).d = t.d := by
  rw [e.on_d, if_neg (he.dst ▸ destination_ne_d f)]

/-- Settles O10: the effect of the instruction leaves Рг.D, the stream and the host's moves, and
takes the instruction's words. -/
theorem wellFormedInstructionsComplete : Obligations.WellFormedInstructionsComplete := by
  unfold Obligations.WellFormedInstructionsComplete
  intro i s hwf
  obtain ⟨e, he⟩ := exists_effect hwf s
  refine ⟨e.on s, ?_, ?_, e.on_prog s, he.on_d s, e.on_dFeed s⟩
  · rw [exec_eq_run, he.run s (.refl _ s)]
  · rw [e.on_ip, he.words]; rfl

/-- Settles O16: each of the rows is a bit instruction, whose number does not fit. -/
theorem byteBitNumberAboveSevenRefused : Obligations.ByteBitNumberAboveSevenRefused := by
  unfold Obligations.ByteBitNumberAboveSevenRefused
  intro n a s hn row hrow
  have hrows : (bitRows .byte n a s).map (fun row => bitNumberTooHigh row.instr.format) =
      List.replicate 21 (decide (7 < n.toNat)) := rfl
  have hrowHigh : bitNumberTooHigh row.instr.format = decide (7 < n.toNat) :=
    List.eq_of_mem_replicate (hrows ▸ List.mem_map_of_mem hrow)
  have hhigh : bitNumberTooHigh row.instr.format = true := hrowHigh.trans (decide_eq_true hn)
  rw [exec_eq_run, run_of_bitNumberTooHigh hhigh]

/-- Settles O17: the operand and the mask are both Акк. -/
theorem sameSourceRefused : Obligations.SameSourceRefused := by
  unfold Obligations.SameSourceRefused
  intro w a s
  simp only [exec_eq_run]
  exact ⟨run_of_sameSources rfl s, run_of_sameSources rfl s, run_of_sameSources rfl s⟩

/-! ## Rules about every instruction -/

/-- The width of a format with a B/W field is what the field selects. -/
theorem opWidth_of_widthField {f : Format} {w : Width} (h : widthField f = some w) : opWidth f = w := by
  rw [opWidth, h]; rfl

/-- A write of byte width keeps the high byte (R26). -/
theorem writeW_high {w : Width} (hw : w = .byte) (old : Word) (r : BitVec w.bits) :
    (writeW w old r).extractLsb' 8 8 = old.extractLsb' 8 8 := by
  subst hw
  exact writeW_byte_high old r

/-- Settles O51: an effect of byte width writes registers only through `write_w`. -/
theorem byteModeKeepsHighBytes : Obligations.ByteModeKeepsHighBytes := by
  unfold Obligations.ByteModeKeepsHighBytes
  intro i s t hw h
  obtain ⟨e, -, rfl⟩ := exec_eq_next h
  have hkeep := writeW_high (opWidth_of_widthField hw)
  refine ⟨?acc, fun b => ?reg⟩
  case acc => rw [e.on_acc]; split <;> simp only [hkeep]
  case reg => rw [e.on_reg]; split <;> simp only [hkeep]

/-- The low byte of a word, as an operand and as a field of the word. -/
theorem loW_byte (v : Word) : loW .byte v = v.extractLsb' 0 8 :=
  BitVec.setWidth_eq_extractLsb' (by decide)

/-- Words with the same low byte are the same byte-mode operand. -/
theorem loW_byte_congr {u v : Word} (h : u.extractLsb' 0 8 = v.extractLsb' 0 8) :
    loW .byte u = loW .byte v := by
  rw [loW_byte, loW_byte, h]

/-- States that agree but for the high bytes and the outputs give byte-mode instructions the same
inputs. -/
theorem sameInputs_of_lowBytesAgree {s t : State} (h : LowBytesAgree s t) : SameInputs .byte s t := by
  obtain ⟨hreg, hacc, hd, hst, -, -, -, hdraws⟩ := h
  have hd' : s.d.setWidth 8 = t.d.setWidth 8 := loW_byte_congr hd
  refine ⟨fun src => ?_, hst, hdraws⟩
  cases src with
  | reg a => exact loW_byte_congr (hreg a)
  | acc => exact loW_byte_congr hacc
  | d => exact hd'
  | dZero | dSign => simp only [State.operand, State.read, hd']
  | imm v => rfl
  | zero => rfl

/-- One value written at byte width to registers with the same low byte leaves them with the same
low byte. -/
theorem writeW_low {w : Width} (hw : w = .byte) (old old' : Word) (r : BitVec w.bits) :
    (writeW w old r).extractLsb' 0 8 = (writeW w old' r).extractLsb' 0 8 := by
  subst hw
  rw [← loW_byte, ← loW_byte, loW_writeW, loW_writeW]

/-- One byte-mode effect on two states that agree but for the high bytes and the outputs leads to
two such states. -/
theorem lowBytesAgree_on {w : Width} (hw : w = .byte) (e : Effect w) (hd : e.dst ≠ .d) {s t : State}
    (h : LowBytesAgree s t) : LowBytesAgree (e.on s) (e.on t) := by
  obtain ⟨hreg, hacc, hd', hst, hprog, hip, hfeed, hdraws⟩ := h
  refine ⟨fun b => ?reg, ?acc, ?d, rfl, ?_, ?_, ?_, ?_⟩
  case reg =>
    rw [e.on_reg, e.on_reg]
    split
    · exact writeW_low hw ..
    · exact hreg b
  case acc =>
    rw [e.on_acc, e.on_acc]
    split
    · exact writeW_low hw ..
    · exact hacc
  case d => rwa [e.on_d, e.on_d, if_neg hd, if_neg hd]
  all_goals simp only [Effect.on_prog, Effect.on_ip, Effect.on_dFeed, Effect.on_draws, hprog, hip,
    hfeed, hdraws]

/-- Settles O52: the two states give the instruction the same inputs, so it has one effect on both.
-/
theorem byteModeIgnoresHighBytes : Obligations.ByteModeIgnoresHighBytes := by
  unfold Obligations.ByteModeIgnoresHighBytes
  intro i s t s' hw h hs
  obtain ⟨e, he, rfl⟩ := exec_eq_next hs
  have hwidth := opWidth_of_widthField hw
  have hinputs : SameInputs (opWidth i.format) s t := by
    rw [hwidth]
    exact sameInputs_of_lowBytesAgree h
  exact ⟨e.on t, (exec_eq_run i t).trans (he.run t hinputs),
    lowBytesAgree_on hwidth e (he.dst ▸ destination_ne_d _) h, rfl⟩

/-- Settles O53: what the effect of the format may do to РгС. -/
theorem userFlagsWrittenOnlyBy : Obligations.UserFlagsWrittenOnlyBy := by
  unfold Obligations.UserFlagsWrittenOnlyBy
  intro i s t hset hload h
  obtain ⟨e, he, rfl⟩ := exec_eq_next h
  obtain ⟨h1, h2, h3⟩ := he.flags.user hset hload
  exact ⟨h1, h2, h3⟩

/-- Settles O54: what the effect of the format may do to РгС. -/
theorem linkWrittenOnlyBy : Obligations.LinkWrittenOnlyBy := by
  unfold Obligations.LinkWrittenOnlyBy
  intro i s t h
  obtain ⟨e, he, rfl⟩ := exec_eq_next h
  exact ⟨he.flags.link, he.flags.kept⟩

/-- Settles O55: an effect writes its destination, and the destination of a format is Акк or the
entry the format names where it is a register. -/
theorem registersWrittenOnlyBy : Obligations.RegistersWrittenOnlyBy := by
  unfold Obligations.RegistersWrittenOnlyBy
  intro i s t h
  obtain ⟨e, he, rfl⟩ := exec_eq_next h
  refine ⟨fun b hb => ?_, fun hacc => ?_⟩
  · rw [e.on_reg, he.dst, if_neg fun hdst => hb (addressField_of_destination hdst)]
  · rw [e.on_acc, he.dst, if_neg (of_decide_eq_false ((writesAccumulator_eq _).symm.trans hacc))]

/-- No instruction reads Y or CT. -/
theorem exec_outputs (i : Instr) (s : State) (y : Word) (ct : Bool) :
    exec i { s with y := y, ct := ct } = exec i s := by
  obtain ⟨e, he, hs⟩ | ⟨hbit, hs⟩ | ⟨hsame, hs⟩ := exec_cases i s <;> rw [hs, exec_eq_run]
  · rw [he.run _ (sameInputs_outputs _ s y ct), e.on_outputs]
  · rw [run_of_bitNumberTooHigh hbit]
  · rw [run_of_sameSources hsame]

/-- The host's move, as one update (R24). -/
theorem hostMove_eq (s : State) :
    s.hostMove = { s with d := (s.dFeed.head?.join).getD s.d, dFeed := s.dFeed.tail } := by
  obtain ⟨x, acc, d, st, y, ct, prog, ip, dFeed, draws⟩ := s
  cases dFeed with
  | nil => rfl
  | cons v rest => cases v <;> rfl

/-- The host's move neither reads nor writes Y and CT. -/
theorem hostMove_outputs (s : State) (y : Word) (ct : Bool) :
    ({ s with y := y, ct := ct } : State).hostMove = { s.hostMove with y := y, ct := ct } := by
  rw [hostMove_eq, hostMove_eq]

/-- Settles O56: the first step already overwrites the outputs, having read neither. -/
theorem outputsAreNeverRead : Obligations.OutputsAreNeverRead := by
  unfold Obligations.OutputsAreNeverRead
  intro k s y ct
  have hstep : step { s with y := y, ct := ct } = step s := by
    rw [step, step, stepBy, stepBy, hostMove_outputs]
    simp only [exec_outputs]
    rfl
  rw [runSteps, runSteps, hstep]

end Sys2Proof.Effects

/-! # The step and the run

A step is the instruction decoded at the index, on the state after the host's move; what decodes
where is known from the statements about the encoding, and what the instruction does from its
effect. -/

namespace Sys2Proof.Steps

open Sys2Proof.Machine Sys2Proof.Claims Sys2Proof.Encoding Sys2Proof.Effects

/-- A step where the words at the index decode to an instruction. -/
theorem step_of_decode_ok {s : State} {i : Instr} {rest : List Word}
    (h : decode (s.prog.drop s.ip) = .ok i rest) : step s = exec i s.hostMove := by
  rw [step, stepBy, State.hostMove_stream, State.stream, h]

/-- A step where the word at the index begins no instruction. -/
theorem step_of_decode_undecodable {s : State} {word : Word}
    (h : decode (s.prog.drop s.ip) = .undecodable word) :
    step s = .refused (.undecodableWord word) := by
  rw [step, stepBy, State.hostMove_stream, State.stream, h]

/-- A step where the last word needs an immediate word. -/
theorem step_of_decode_immediateMissing {s : State}
    (h : decode (s.prog.drop s.ip) = .immediateMissing) :
    step s = .refused .immediateOperandMissing := by
  rw [step, stepBy, State.hostMove_stream, State.stream, h]

/-- A step where no word is left. -/
theorem step_of_decode_noWord {s : State} (h : decode (s.prog.drop s.ip) = .noWord) :
    step s = .fault .endOfProgram := by
  rw [step, stepBy, State.hostMove_stream, State.stream, h]

/-- Settles O7: the host's move leaves the stream and the index, so the words decoded are those
there before it. -/
theorem stepRunsDecodedInstruction : Obligations.StepRunsDecodedInstruction := by
  unfold Obligations.StepRunsDecodedInstruction
  intro s i rest h
  rw [step_of_decode_ok h, hostMove_eq]

/-- No instruction faults. -/
theorem exec_ne_fault (i : Instr) (s : State) (r : Fault) : exec i s ≠ .fault r := by
  intro h
  obtain ⟨e, -, hs⟩ | ⟨-, hs⟩ | ⟨-, hs⟩ := exec_cases i s <;> cases hs.symm.trans h

/-- Settles O8: only the empty rest of a stream has no word to decode. -/
theorem stepFaultsExactlyAtTheEnd : Obligations.StepFaultsExactlyAtTheEnd := by
  unfold Obligations.StepFaultsExactlyAtTheEnd
  intro s
  rw [← List.drop_eq_nil_iff, ← decode_eq_noWord]
  refine ⟨fun h => ?_, step_of_decode_noWord⟩
  cases hd : decode (s.prog.drop s.ip) with
  | noWord => rfl
  | ok i rest => exact absurd ((step_of_decode_ok hd).symm.trans h) (exec_ne_fault i _ _)
  | undecodable word => cases (step_of_decode_undecodable hd).symm.trans h
  | immediateMissing => cases (step_of_decode_immediateMissing hd).symm.trans h

/-- The words at the index are those of the instruction they decode to. -/
theorem decode_eq_ok_iff {ws rest : List Word} {i : Instr} :
    decode ws = .ok i rest ↔ ws = encode i ++ rest :=
  ⟨encodeOfDecode ws rest i, fun h => h ▸ decodeOfEncode i rest⟩

/-- What an instruction is refused for. -/
theorem exec_eq_refused {i : Instr} {s : State} {r : Refusal} :
    exec i s = .refused r ↔ (bitNumberTooHigh i.format = true ∧ r = .bitNumberAbove7) ∨
      (sameSources i.format = true ∧ r = .sameSource) := by
  constructor
  · intro h
    obtain ⟨e, -, hs⟩ | ⟨hbit, hs⟩ | ⟨hsame, hs⟩ := exec_cases i s <;> cases hs.symm.trans h
    · exact .inl ⟨hbit, rfl⟩
    · exact .inr ⟨hsame, rfl⟩
  · rw [exec_eq_run]
    rintro (⟨hbit, rfl⟩ | ⟨hsame, rfl⟩)
    · exact run_of_bitNumberTooHigh hbit s
    · exact run_of_sameSources hsame s

/-- Settles O9: a step is refused by the decoder (R78, R392) or by the instruction (R233, R316). -/
theorem stepIsRefusedExactlyWhen : Obligations.StepIsRefusedExactlyWhen := by
  unfold Obligations.StepIsRefusedExactlyWhen
  intro s r
  constructor
  · intro h
    cases hd : decode (s.prog.drop s.ip) with
    | ok i rest =>
      have hws := decode_eq_ok_iff.1 hd
      obtain ⟨hbit, hr⟩ | ⟨hsame, hr⟩ := exec_eq_refused.1 ((step_of_decode_ok hd).symm.trans h)
      · exact .inr (.inr (.inl ⟨i, rest, hws, hbit, hr⟩))
      · exact .inr (.inr (.inr ⟨i, rest, hws, hsame, hr⟩))
    | undecodable word =>
      cases (step_of_decode_undecodable hd).symm.trans h
      obtain ⟨rest, hws, hrow⟩ := decode_eq_undecodable.1 hd
      exact .inl ⟨word, rest, hws, hrow, rfl⟩
    | immediateMissing =>
      cases (step_of_decode_immediateMissing hd).symm.trans h
      obtain ⟨i, word, imm, hws, hi⟩ := decode_eq_immediateMissing.1 hd
      exact .inr (.inl ⟨i, word, imm, hws, hi, rfl⟩)
    | noWord => cases (step_of_decode_noWord hd).symm.trans h
  · rintro (⟨word, rest, hws, hrow, rfl⟩ | ⟨i, word, imm, hws, hi, rfl⟩ | ⟨i, rest, hws, hbit, rfl⟩ |
      ⟨i, rest, hws, hsame, rfl⟩)
    · exact step_of_decode_undecodable (decode_eq_undecodable.2 ⟨rest, hws, hrow⟩)
    · exact step_of_decode_immediateMissing (decode_eq_immediateMissing.2 ⟨i, word, imm, hws, hi⟩)
    · rw [step_of_decode_ok (decode_eq_ok_iff.2 hws)]
      exact exec_eq_refused.2 (.inl ⟨hbit, rfl⟩)
    · rw [step_of_decode_ok (decode_eq_ok_iff.2 hws)]
      exact exec_eq_refused.2 (.inr ⟨hsame, rfl⟩)

/-- A step that leads to a state runs the instruction whose words stand at the index: the index
moves past these words, the stream stays, and Рг.D and the list of moves are as after the host's
move. -/
theorem step_eq_next {s t : State} (h : step s = .next t) :
    ∃ i rest, s.prog.drop s.ip = encode i ++ rest ∧ t.ip = s.ip + (encode i).length ∧
      t.prog = s.prog ∧ t.d = (s.dFeed.head?.join).getD s.d ∧ t.dFeed = s.dFeed.tail := by
  cases hd : decode (s.prog.drop s.ip) with
  | ok i rest =>
    obtain ⟨e, he, rfl⟩ := exec_eq_next ((step_of_decode_ok hd).symm.trans h)
    refine ⟨i, rest, decode_eq_ok_iff.1 hd, ?_, ?_, ?_, ?_⟩
    · rw [e.on_ip, State.hostMove_ip, he.words]; rfl
    · rw [e.on_prog, State.hostMove_prog]
    · rw [he.on_d, hostMove_eq]
    · rw [e.on_dFeed, hostMove_eq]
  | undecodable word => cases (step_of_decode_undecodable hd).symm.trans h
  | immediateMissing => cases (step_of_decode_immediateMissing hd).symm.trans h
  | noWord => cases (step_of_decode_noWord hd).symm.trans h

/-- Settles O12: the words the step takes are words of the stream. -/
theorem stepKeepsIndexInStream : Obligations.StepKeepsIndexInStream := by
  unfold Obligations.StepKeepsIndexInStream
  intro s t hs h
  obtain ⟨i, rest, hws, hip, hprog, -, -⟩ := step_eq_next h
  have hlen := congrArg List.length hws
  rw [List.length_drop, List.length_append] at hlen
  unfold State.InStream at hs ⊢
  rw [hip, hprog]
  omega

/-- Settles O13: the empty stream has the length 0. -/
theorem resetIndexInStream : Obligations.ResetIndexInStream := Nat.le_refl 0

/-- Settles O11: every entry of the register file is the one it is filled with. -/
theorem resetState : Obligations.ResetState := by
  unfold Obligations.ResetState
  refine ⟨rfl, fun a => ?_, rfl, rfl, by decide, rfl, rfl, rfl, rfl⟩
  exact Vector.getElem_replicate a.isLt

/-- A run of `k + 1` steps that reaches a state is a step followed by a run of `k`. -/
theorem runSteps_succ_eq_next {k : Nat} {s t : State} (h : runSteps (k + 1) s = .next t) :
    ∃ u, step s = .next u ∧ runSteps k u = .next t := by
  rw [runSteps] at h
  split at h
  · next u hu => exact ⟨u, hu, h⟩
  · cases h
  · cases h

/-- The last value the host loads among its first `k + 1` moves is the last among the `k` after the
first move, or else the one of the first move. -/
theorem getLast?_moves (moves : List (Option Word)) (k : Nat) (d : Word) :
    (((moves.take (k + 1)).filterMap id).getLast?).getD d =
      (((moves.tail.take k).filterMap id).getLast?).getD ((moves.head?.join).getD d) := by
  cases moves with
  | nil => simp
  | cons v rest =>
    cases v with
    | none => simp
    | some v => simp [List.getLast?_cons]

/-- Settles O14, by induction on the number of steps. -/
theorem runKeepsStreamAndDataRegister : Obligations.RunKeepsStreamAndDataRegister := by
  unfold Obligations.RunKeepsStreamAndDataRegister
  intro k
  induction k with
  | zero => rintro s t ⟨⟩; exact ⟨rfl, rfl, by simp⟩
  | succ k ih =>
    intro s t h
    obtain ⟨u, hu, ht⟩ := runSteps_succ_eq_next h
    obtain ⟨i, rest, -, -, hprog, hd, hfeed⟩ := step_eq_next hu
    obtain ⟨hprog', hfeed', hd'⟩ := ih u t ht
    refine ⟨hprog'.trans hprog, ?_, ?_⟩
    · rw [hfeed', hfeed, List.drop_tail]
    · rw [hd', hfeed, hd, getLast?_moves]

/-- Settles O15, by induction on the number of steps; an instruction has one word or two. -/
theorem runIsAStraightLine : Obligations.RunIsAStraightLine := by
  unfold Obligations.RunIsAStraightLine
  intro k
  induction k with
  | zero => rintro s t ⟨⟩; exact ⟨Nat.le_refl _, Nat.le_refl _⟩
  | succ k ih =>
    intro s t h
    obtain ⟨u, hu, ht⟩ := runSteps_succ_eq_next h
    obtain ⟨i, rest, -, hip, -, -, -⟩ := step_eq_next hu
    obtain ⟨hlow, hhigh⟩ := ih u t ht
    have hlen : 1 ≤ (encode i).length ∧ (encode i).length ≤ 2 := by
      rw [length_encode]
      split <;> decide
    omega

end Sys2Proof.Steps

/-! # The adder

What `add_w` of R8 computes for any width, and what the subtractions make of it (R166): the addition
of the complement of `b` with a carry in is the difference, less 1 where the carry in is 0. -/

namespace Sys2Proof.Adder

open Sys2Proof.Machine Sys2Proof.Claims

variable {k : Nat}

/-- A quotient is not 0 exactly where the divisor fits. -/
theorem div_bne_zero {n d : Nat} (hd : 0 < d) : (n / d != 0) = decide (d ≤ n) := by
  rw [Bool.eq_iff_iff, bne_iff_ne, decide_eq_true_iff, Nat.ne_zero_iff_zero_lt, Nat.div_pos_iff]
  exact and_iff_right hd

/-- A value below twice `h`, modulo `h`. -/
theorem mod_of_lt_two_mul {x h : Nat} (hx : x < 2 * h) : x % h = if x < h then x else x - h := by
  split
  · next hlt => exact Nat.mod_eq_of_lt hlt
  · next hge => rw [Nat.mod_eq_sub_mod (by omega), Nat.mod_eq_of_lt (by omega)]

/-- A positive width has twice the values of the half below its sign bit. -/
theorem two_pow_eq_two_mul (hk : 0 < k) : 2 ^ k = 2 * 2 ^ (k - 1) := by
  rw [← Nat.pow_succ']
  congr 1
  omega

/-- The signed value, by the half that the sign bit selects. -/
theorem toInt_eq_of_half {h : Nat} (h2 : 2 ^ k = 2 * h) (v : BitVec k) :
    v.toInt = if v.toNat < h then (v.toNat : Int) else v.toNat - 2 * h := by
  rw [BitVec.toInt_eq_toNat_cond, h2]
  split <;> split <;> omega

/-- The carry out says whether the sum reaches 2^k. -/
theorem addW_cout (a b : BitVec k) (cin : Bool) :
    (addW a b cin).cout = decide (2 ^ k ≤ a.toNat + b.toNat + cin.toNat) :=
  div_bne_zero (Nat.two_pow_pos k)

/-- The carry into the sign bit differs from the carry out exactly where the signed sum does not
fit. -/
theorem addW_ovf (hk : 0 < k) (a b : BitVec k) (cin : Bool) :
    (addW a b cin).ovf = outOfRange k (a.toInt + b.toInt + cin.toNat) := by
  have h2 := two_pow_eq_two_mul hk
  have hpos : 0 < 2 ^ (k - 1) := Nat.two_pow_pos _
  have hcin : cin.toNat ≤ 1 := cin.toNat_le
  have ha := a.isLt
  have hb := b.isLt
  have hcast : ((2 : Int) ^ (k - 1)) = ((2 ^ (k - 1) : Nat) : Int) := by push_cast; rfl
  simp only [addW, outOfRange, hcast]
  generalize 2 ^ (k - 1) = half at h2 hpos ⊢
  rw [toInt_eq_of_half h2, toInt_eq_of_half h2, div_bne_zero hpos, h2, div_bne_zero (by omega),
    mod_of_lt_two_mul (by omega), mod_of_lt_two_mul (by omega), Bool.eq_iff_iff, Bool.xor_iff_ne,
    ne_eq, decide_eq_decide, decide_eq_true_iff]
  split <;> split <;> omega

/-- Settles O57, with a lemma for each of the three results. -/
theorem adderMeaning : Obligations.AdderMeaning := by
  unfold Obligations.AdderMeaning
  exact fun k a b cin hk => ⟨BitVec.toNat_ofNat _ _, addW_cout a b cin, addW_ovf hk a b cin⟩

/-- The sum, in the arithmetic of `k`-bit values. -/
theorem addW_sum (a b : BitVec k) (cin : Bool) :
    (addW a b cin).sum = a + b + BitVec.ofNat k cin.toNat := by
  simp only [addW, BitVec.ofNat_add, BitVec.ofNat_toNat, BitVec.setWidth_eq]

/-- The flags of an addition, in unbounded arithmetic. -/
theorem arithResult_addW (hk : 0 < k) (a b : BitVec k) (cin : Bool) (st : Status) :
    arithResult (addW a b cin) st = ⟨a + b + BitVec.ofNat k cin.toNat,
      flagsOf (a + b + BitVec.ofNat k cin.toNat) (decide (2 ^ k ≤ a.toNat + b.toNat + cin.toNat))
        (outOfRange k (a.toInt + b.toInt + cin.toNat)) st⟩ := by
  rw [arithResult, arithFlags_eq, addW_sum, addW_cout, addW_ovf hk]

/-! ## Subtraction as the addition of the complement (R166) -/

/-- The signed value of the complement. -/
theorem toInt_complement (hk : 0 < k) (b : BitVec k) : (~~~b).toInt = -b.toInt - 1 := by
  have h2 := two_pow_eq_two_mul hk
  have hb := b.isLt
  rw [toInt_eq_of_half h2, toInt_eq_of_half h2, BitVec.toNat_not]
  split <;> split <;> omega

/-- The difference less the borrow. -/
theorem addW_complement_sum (a b : BitVec k) (cin : Bool) :
    (addW a (~~~b) cin).sum = BitVec.ofInt k (a.toInt - b.toInt - (!cin).toNat) := by
  have hneg : ~~~b = -b - 1#k := by rw [BitVec.neg_eq_not_add, BitVec.add_sub_cancel]
  rw [addW_sum, Int.sub_eq_add_neg, Int.sub_eq_add_neg, BitVec.ofInt_add, BitVec.ofInt_add,
    BitVec.ofInt_neg, BitVec.ofInt_neg, BitVec.ofInt_toInt, BitVec.ofInt_toInt, hneg]
  cases cin
  · simp [BitVec.sub_eq_add_neg, BitVec.add_assoc]
  · simp [BitVec.add_assoc]

/-- The carry out is 1 exactly where no borrow occurs. -/
theorem addW_complement_cout (a b : BitVec k) (cin : Bool) :
    (addW a (~~~b) cin).cout = decide (b.toNat + (!cin).toNat ≤ a.toNat) := by
  have hb := b.isLt
  rw [addW_cout, BitVec.toNat_not, decide_eq_decide]
  cases cin <;> simp <;> omega

/-- The overflow, exactly where the signed difference does not fit. -/
theorem addW_complement_ovf (hk : 0 < k) (a b : BitVec k) (cin : Bool) :
    (addW a (~~~b) cin).ovf = outOfRange k (a.toInt - b.toInt - (!cin).toNat) := by
  rw [addW_ovf hk, toInt_complement hk]
  congr 1
  cases cin <;> simp <;> omega

/-- The result of "a - b + C" at the default of `SUBC_FORM` (R166, D8). -/
theorem subtractWithCarry_eq (hk : 0 < k) (draw : Nat) (a b : BitVec k) (st : Status) :
    subtractWithCarry parameters draw a b st =
      ⟨BitVec.ofInt k (a.toInt - b.toInt - (!st.c).toNat),
        flagsOf (BitVec.ofInt k (a.toInt - b.toInt - (!st.c).toNat))
          (decide (b.toNat + (!st.c).toNat ≤ a.toNat))
          (outOfRange k (a.toInt - b.toInt - (!st.c).toNat)) st⟩ := by
  have hunfold : subtractWithCarry parameters draw a b st = arithResult (addW a (~~~b) st.c) st := rfl
  rw [hunfold, arithResult, arithFlags_eq, addW_complement_sum, addW_complement_cout,
    addW_complement_ovf hk]

/-- The difference that an addition of the complement with carry in 1 gives. -/
theorem arithResult_addW_complement (hk : 0 < k) (a b : BitVec k) (st : Status) :
    arithResult (addW a (~~~b) true) st = ⟨a - b, flagsOf (a - b) (decide (b.toNat ≤ a.toNat))
      (outOfRange k (a.toInt - b.toInt)) st⟩ := by
  have hsum : BitVec.ofInt k (a.toInt - b.toInt) = a - b := by
    rw [Int.sub_eq_add_neg, BitVec.ofInt_add, BitVec.ofInt_neg, BitVec.ofInt_toInt,
      BitVec.ofInt_toInt, BitVec.sub_eq_add_neg]
  have hborrow (x : Int) : x - ((!true).toNat : Int) = x := by simp
  rw [arithResult, arithFlags_eq, addW_complement_sum, addW_complement_cout, addW_complement_ovf hk,
    hborrow, hsum]
  rfl

/-- The result of a subtraction at the default of `SUB_CARRY` (R166). -/
theorem subtract_eq (hk : 0 < k) (a b : BitVec k) (st : Status) :
    subtract parameters a b st = ⟨a - b, flagsOf (a - b) (decide (b.toNat ≤ a.toNat))
      (outOfRange k (a.toInt - b.toInt)) st⟩ :=
  arithResult_addW_complement hk a b st

/-- The adder treats its operands alike. -/
theorem addW_comm (a b : BitVec k) (cin : Bool) : addW a b cin = addW b a cin := by
  simp only [addW, Nat.add_comm]

end Sys2Proof.Adder

/-! # The instructions that deliver one result

The operand tables of the statements give an instruction, its operands and its destination for each
row. One lemma for each table says that the instruction of a row delivers the operation on the row's
operands to the row's destination; what is left of a statement is a fact about the operation. -/

namespace Sys2Proof.Results

open Sys2Proof.Machine Sys2Proof.Claims

/-! ## Operands and register writes -/

/-- A width has bits. -/
theorem bits_pos (w : Width) : 0 < w.bits := by cases w <;> decide

/-- Рг.D.0 (R22). -/
theorem read_dZero (s : State) : s.read .dZero = dZero s := by
  show (s.d.setWidth 8).setWidth 16 = _
  rw [BitVec.setWidth_eq_append (by decide), dZero, ← Effects.loW_byte]
  rfl

/-- Рг.D.S (R22). -/
theorem read_dSign (s : State) : s.read .dSign = dSign s := by
  have hsign : (s.d.setWidth 8).msb = s.d.getLsbD 7 := by simp [BitVec.msb_eq_getLsbD_last]
  show (s.d.setWidth 8).signExtend 16 = _
  rw [BitVec.signExtend_eq_append_of_le (by decide), hsign, dSign, ← Effects.loW_byte]
  rfl

/-- An operand of word width is the whole word. -/
theorem loW_word (v : Word) : loW .word v = v := BitVec.setWidth_eq v

/-- Two writes of one width to a register leave the second. -/
theorem writeW_writeW (w : Width) (old : Word) (r r' : BitVec w.bits) :
    writeW w (writeW w old r) r' = writeW w old r' := by
  cases w with
  | word => rfl
  | byte => exact congrArg (· ++ r') (writeW_byte_high old r)

/-- Writing back the operand a register holds leaves the register. -/
theorem writeW_loW (w : Width) (v : Word) : writeW w v (loW w v) = v := by
  cases w with
  | word => exact BitVec.setWidth_eq v
  | byte =>
    show v.extractLsb' 8 8 ++ loW .byte v = v
    rw [Effects.loW_byte, BitVec.extractLsb'_append_extractLsb'_eq_extractLsb' (by decide)]
    exact BitVec.extractLsb'_eq_self

/-- Settles O58: a byte-mode write appends the result below the old high byte. -/
theorem registerWriteMeaning : Obligations.RegisterWriteMeaning := by
  unfold Obligations.RegisterWriteMeaning
  exact ⟨fun old r => rfl,
    fun old r => ⟨BitVec.extractLsb'_append_eq_right, writeW_byte_high old r⟩⟩

/-- What a completed instruction with a register-file entry as its destination leaves behind. -/
theorem exists_next_of_gives_reg {i : Instr} {w : Width} {a : Reg} {r : BitVec w.bits} {flags : Status}
    {words : Nat} {s : State} (h : Gives i w (.reg a) r flags words s) :
    ∃ t, exec i s = .next t ∧ t.reg a = writeW w (s.reg a) r ∧ (∀ b, a ≠ b → t.reg b = s.reg b) ∧
      t.acc = s.acc ∧ t.d = s.d ∧ t.st = flags := by
  obtain ⟨t, ht, -, hacc, hreg, hd, hst, -, -, -⟩ := h
  refine ⟨t, ht, ?_, fun b hb => ?_, ?_, hd, ?_⟩
  · rw [hreg, if_pos rfl]
  · rw [hreg, if_neg fun h => hb (Dst.reg.inj h)]
  · rw [hacc, if_neg (by simp)]
  · rw [hst, if_neg (by simp)]

/-- A result of a logical operation, with its flags (R165). -/
theorem logicResult_eq {k : Nat} (r : BitVec k) (st : Status) :
    logicResult r st = ⟨r, flagsOf r false false st⟩ := by
  rw [logicResult, logicFlags_eq]

end Sys2Proof.Results

/-! # Single-operand instructions -/

namespace Sys2Proof.SingleOperand

open Sys2Proof.Machine Sys2Proof.Claims Sys2Proof.Results

/-- A row of Табл. 10.10 or 10.11 runs every operation from a source that reads the row's value to
the row's destination. -/
def RunsSingle (w : Width) (s : State) (row : SingleRow) : Prop :=
  ∃ src, s.read src = row.src ∧ row.dst ≠ .d ∧ src.instrWords = row.words ∧
    ∀ op, exec (row.instr op) s = runSingle parameters op src row.dst w s

/-- The rows of SOR (R128 to R137). -/
theorem runsSingle_sorRows (w : Width) (a : Reg) (imm : Word) (s : State) :
    ∀ row ∈ sorRows w a imm s, RunsSingle w s row := by
  simp only [sorRows, List.forall_mem_cons]
  exact ⟨⟨.reg a, rfl, nofun, rfl, fun op => exec_instr (.sor op .sora w a) s⟩,
    ⟨.reg a, rfl, nofun, rfl, fun op => exec_instr (.sor op .sory w a) s⟩,
    ⟨.reg a, rfl, nofun, rfl, fun op => exec_instr (.sor op .sors w a) s⟩,
    ⟨.acc, rfl, nofun, rfl, fun op => exec_instr (.sor op .soar w a) s⟩,
    ⟨.d, rfl, nofun, rfl, fun op => exec_instr (.sor op .sodr w a) s⟩,
    ⟨.imm imm, rfl, nofun, rfl, fun op => exec_instr (.sor op (.soir imm) w a) s⟩,
    ⟨.zero, rfl, nofun, rfl, fun op => exec_instr (.sor op .sozr w a) s⟩,
    ⟨.dZero, read_dZero s, nofun, rfl, fun op => exec_instr (.sor op .sozer w a) s⟩,
    ⟨.dSign, read_dSign s, nofun, rfl, fun op => exec_instr (.sor op .soser w a) s⟩,
    ⟨.reg a, rfl, nofun, rfl, fun op => exec_instr (.sor op .sorr w a) s⟩, List.forall_mem_nil _⟩

/-- The rows of SONR with the destination that `sel` names (R138 to R147). -/
theorem runsSingle_sonrRowsTo (sel : NrDest) (w : Width) (imm : Word) (s : State) :
    ∀ row ∈ sonrRowsTo sel sel.dst w imm s, RunsSingle w s row := by
  have hdst : sel.dst ≠ .d := by cases sel <;> nofun
  simp only [sonrRowsTo, List.forall_mem_cons]
  exact ⟨⟨.acc, rfl, hdst, rfl, fun op => exec_instr (.sonr op .soa sel w) s⟩,
    ⟨.d, rfl, hdst, rfl, fun op => exec_instr (.sonr op .sod sel w) s⟩,
    ⟨.imm imm, rfl, hdst, rfl, fun op => exec_instr (.sonr op (.soi imm) sel w) s⟩,
    ⟨.zero, rfl, hdst, rfl, fun op => exec_instr (.sonr op .soz sel w) s⟩,
    ⟨.dZero, read_dZero s, hdst, rfl, fun op => exec_instr (.sonr op .soze sel w) s⟩,
    ⟨.dSign, read_dSign s, hdst, rfl, fun op => exec_instr (.sonr op .sose sel w) s⟩,
    List.forall_mem_nil _⟩

/-- The 34 rows. -/
theorem runsSingle_of_mem {w : Width} {a : Reg} {imm : Word} {s : State} {row : SingleRow}
    (hrow : row ∈ singleRows w a imm s) : RunsSingle w s row := by
  simp only [singleRows, List.mem_append] at hrow
  obtain (((h | h) | h) | h) | h := hrow
  · exact runsSingle_sorRows w a imm s row h
  · exact runsSingle_sonrRowsTo .nry w imm s row h
  · exact runsSingle_sonrRowsTo .nra w imm s row h
  · exact runsSingle_sonrRowsTo .nrs w imm s row h
  · exact runsSingle_sonrRowsTo .nras w imm s row h

/-- The instruction of a row gives the operation on the row's source. -/
theorem gives_singleRow {w : Width} {a : Reg} {imm : Word} {s : State} {row : SingleRow}
    (hrow : row ∈ singleRows w a imm s) {op : SingleOp} {r : BitVec w.bits} {flags : Status}
    (h : singleOp op (loW w row.src) s.st = ⟨r, flags⟩) :
    Gives (row.instr op) w row.dst r flags row.words s := by
  obtain ⟨src, hsrc, hdst, hwords, hexec⟩ := runsSingle_of_mem hrow
  refine deliver_gives ⟨r, flags⟩ ?_ hdst rfl rfl
  rw [hexec, ← h, ← hsrc, ← hwords]
  rfl

/-- Settles O18: MOVE delivers its operand. -/
theorem moveResult : Obligations.MoveResult := by
  unfold Obligations.MoveResult
  exact fun w a imm s row hrow => gives_singleRow hrow (logicResult_eq _ _)

/-- Settles O19: COMP delivers the complement of its operand. -/
theorem complementResult : Obligations.ComplementResult := by
  unfold Obligations.ComplementResult
  intro w a imm s row hrow
  refine ⟨~~~(loW w row.src), fun j hj => ?_, gives_singleRow hrow (logicResult_eq _ _)⟩
  rw [BitVec.getLsbD_not, Shifts.getLsbD_loW w _ hj, decide_eq_true hj, Bool.true_and]

/-- INC is an addition of 0 with carry in (R126). -/
theorem singleOp_inc {k : Nat} (hk : 0 < k) (v : BitVec k) (st : Status) :
    singleOp .inc v st = ⟨v + 1, flagsOf (v + 1) (decide (v.toNat + 1 = 2 ^ k))
      (outOfRange k (v.toInt + 1)) st⟩ := by
  have hsum : v + 0 + BitVec.ofNat k true.toNat = v + 1 := congrArg (· + 1#k) (BitVec.add_zero v)
  have hcarry : decide (2 ^ k ≤ v.toNat + (0 : BitVec k).toNat + true.toNat) =
      decide (v.toNat + 1 = 2 ^ k) := by
    have hv := v.isLt
    rw [decide_eq_decide]
    simp only [BitVec.ofNat_eq_ofNat, BitVec.toNat_zero, Bool.toNat_true]
    omega
  have hsigned : v.toInt + (0 : BitVec k).toInt + (true.toNat : Int) = v.toInt + 1 := by simp
  show arithResult (addW v 0 true) st = _
  rw [Adder.arithResult_addW hk, hsum, hcarry, hsigned]

/-- NEG is the addition of the complement to 0 with carry in (R127). -/
theorem singleOp_neg {k : Nat} (hk : 0 < k) (v : BitVec k) (st : Status) :
    singleOp .neg v st = ⟨-v, flagsOf (-v) (decide (v = 0)) (outOfRange k (-v.toInt)) st⟩ := by
  have hcarry : decide (v.toNat ≤ (0 : BitVec k).toNat) = decide (v = 0) := by
    rw [decide_eq_decide, ← BitVec.toNat_inj]
    simp
  have hsigned : (0 : BitVec k).toInt - v.toInt = -v.toInt := by simp
  have hvalue : 0 - v = -v := BitVec.zero_sub v
  show arithResult (addW (~~~v) 0 true) st = _
  rw [Adder.addW_comm, Adder.arithResult_addW_complement hk, hcarry, hsigned, hvalue]

/-- Settles O20: INC by `singleOp_inc`, in every row. -/
theorem incrementResult : Obligations.IncrementResult := by
  unfold Obligations.IncrementResult
  exact fun w a imm s row hrow => gives_singleRow hrow (singleOp_inc (bits_pos w) _ _)

/-- Settles O21: NEG by `singleOp_neg`, in every row. -/
theorem negateResult : Obligations.NegateResult := by
  unfold Obligations.NegateResult
  exact fun w a imm s row hrow => gives_singleRow hrow (singleOp_neg (bits_pos w) _ _)

end Sys2Proof.SingleOperand

/-! # Two-operand instructions -/

namespace Sys2Proof.TwoOperand

open Sys2Proof.Machine Sys2Proof.Claims Sys2Proof.Results

/-- A row of Табл. 10.12 or 10.13 delivers every operation on the row's operands to the row's
destination. -/
def RunsTwo (w : Width) (s : State) (row : TwoRow) : Prop :=
  row.dst ≠ .d ∧ ∀ op, exec (row.instr op) s =
    s.deliver parameters w row.dst
      (twoOp parameters s.draws op (loW w row.r) (loW w row.s) s.st) row.words

/-- The rows of TOR1 (R179 to R187). -/
theorem runsTwo_tor1Rows (w : Width) (a : Reg) (imm : Word) (s : State) :
    ∀ row ∈ tor1Rows w a imm s, RunsTwo w s row := by
  simp only [tor1Rows, List.forall_mem_cons]
  exact ⟨⟨nofun, fun op => exec_instr (.tor1 .toraa op w a) s⟩,
    ⟨nofun, fun op => exec_instr (.tor1 (.toria imm) op w a) s⟩,
    ⟨nofun, fun op => exec_instr (.tor1 .todra op w a) s⟩,
    ⟨nofun, fun op => exec_instr (.tor1 .toray op w a) s⟩,
    ⟨nofun, fun op => exec_instr (.tor1 (.toriy imm) op w a) s⟩,
    ⟨nofun, fun op => exec_instr (.tor1 .todry op w a) s⟩,
    ⟨nofun, fun op => exec_instr (.tor1 .torar op w a) s⟩,
    ⟨nofun, fun op => exec_instr (.tor1 (.torir imm) op w a) s⟩,
    ⟨nofun, fun op => exec_instr (.tor1 .todrr op w a) s⟩, List.forall_mem_nil _⟩

/-- The rows of TOR2 (R188 to R190). -/
theorem runsTwo_tor2Rows (w : Width) (a : Reg) (imm : Word) (s : State) :
    ∀ row ∈ tor2Rows w a imm s, RunsTwo w s row := by
  simp only [tor2Rows, List.forall_mem_cons]
  exact ⟨⟨nofun, fun op => exec_instr (.tor2 .todar op w a) s⟩,
    ⟨nofun, fun op => exec_instr (.tor2 (.toair imm) op w a) s⟩,
    ⟨nofun, fun op => exec_instr (.tor2 (.todir imm) op w a) s⟩, List.forall_mem_nil _⟩

/-- The rows of TONR with the destination that `sel` names (R191 to R194). -/
theorem runsTwo_tonrRowsTo (sel : NrDest) (w : Width) (imm : Word) (s : State) :
    ∀ row ∈ tonrRowsTo sel sel.dst w imm s, RunsTwo w s row := by
  have hdst : sel.dst ≠ .d := by cases sel <;> nofun
  simp only [tonrRowsTo, List.forall_mem_cons]
  exact ⟨⟨hdst, fun op => exec_instr (.tonr .toda op sel w) s⟩,
    ⟨hdst, fun op => exec_instr (.tonr (.toai imm) op sel w) s⟩,
    ⟨hdst, fun op => exec_instr (.tonr (.todi imm) op sel w) s⟩, List.forall_mem_nil _⟩

/-- The 24 rows. -/
theorem runsTwo_of_mem {w : Width} {a : Reg} {imm : Word} {s : State} {row : TwoRow}
    (hrow : row ∈ twoRows w a imm s) : RunsTwo w s row := by
  simp only [twoRows, List.mem_append] at hrow
  obtain ((((h | h) | h) | h) | h) | h := hrow
  · exact runsTwo_tor1Rows w a imm s row h
  · exact runsTwo_tor2Rows w a imm s row h
  · exact runsTwo_tonrRowsTo .nry w imm s row h
  · exact runsTwo_tonrRowsTo .nra w imm s row h
  · exact runsTwo_tonrRowsTo .nrs w imm s row h
  · exact runsTwo_tonrRowsTo .nras w imm s row h

/-- The instruction of a row gives the operation on the row's operands. -/
theorem gives_twoRow {w : Width} {a : Reg} {imm : Word} {s : State} {row : TwoRow}
    (hrow : row ∈ twoRows w a imm s) {op : TwoOp} {r : BitVec w.bits} {flags : Status}
    (h : twoOp parameters s.draws op (loW w row.r) (loW w row.s) s.st = ⟨r, flags⟩) :
    Gives (row.instr op) w row.dst r flags row.words s := by
  obtain ⟨hdst, hexec⟩ := runsTwo_of_mem hrow
  exact deliver_gives ⟨r, flags⟩ ((hexec op).trans (by rw [h])) hdst rfl rfl

/-- An addition with any carry in, in the terms of R171 and R172. -/
theorem arithResult_addW_ofNat {k : Nat} (hk : 0 < k) (u v : BitVec k) (c : Bool) (st : Status) :
    arithResult (addW u v c) st = ⟨BitVec.ofNat k (u.toNat + v.toNat + c.toNat),
      flagsOf (BitVec.ofNat k (u.toNat + v.toNat + c.toNat))
        (decide (2 ^ k ≤ u.toNat + v.toNat + c.toNat))
        (outOfRange k (u.toInt + v.toInt + c.toInt)) st⟩ := by
  have hsum : u + v + BitVec.ofNat k c.toNat = BitVec.ofNat k (u.toNat + v.toNat + c.toNat) := by
    simp only [BitVec.ofNat_add, BitVec.ofNat_toNat, BitVec.setWidth_eq]
  have hcarry : (c.toNat : Int) = c.toInt := by cases c <;> rfl
  rw [Adder.arithResult_addW hk, hsum, hcarry]

/-- Settles O22: ADD has no carry in, ADDC the old C. -/
theorem addResult : Obligations.AddResult := by
  unfold Obligations.AddResult
  intro w a imm s row hrow
  simp only [List.forall_mem_cons]
  exact ⟨gives_twoRow hrow (arithResult_addW_ofNat (bits_pos w) _ _ false s.st),
    gives_twoRow hrow (arithResult_addW_ofNat (bits_pos w) _ _ s.st.c s.st), List.forall_mem_nil _⟩

/-- Settles O23: SUBR and SUBS are one subtraction with its operands exchanged. -/
theorem subtractResult : Obligations.SubtractResult := by
  unfold Obligations.SubtractResult
  exact fun w a imm s row hrow => ⟨gives_twoRow hrow (Adder.subtract_eq (bits_pos w) _ _ _),
    gives_twoRow hrow (Adder.subtract_eq (bits_pos w) _ _ _)⟩

/-- Settles O24: SUBRC and SUBSC are one subtraction with its operands exchanged. -/
theorem subtractWithCarryResult : Obligations.SubtractWithCarryResult := by
  unfold Obligations.SubtractWithCarryResult
  exact fun w a imm s row hrow => 
    ⟨gives_twoRow hrow (Adder.subtractWithCarry_eq (bits_pos w) s.draws _ _ s.st),
      gives_twoRow hrow (Adder.subtractWithCarry_eq (bits_pos w) s.draws _ _ s.st)⟩

/-! ## Two instructions chained through C -/

/-- A completed two-operand instruction of word width with `x[a]` as its destination. -/
theorem exists_next_of_word {i : Instr} {a : Reg} {s : State} (res : AluResult 16)
    (h : exec i s = s.deliver parameters .word (.reg a) res 1) :
    ∃ t, exec i s = .next t ∧ t.reg a = res.value ∧ (∀ b, a ≠ b → t.reg b = s.reg b) ∧
      t.acc = s.acc ∧ t.d = s.d ∧ t.st = res.st :=
  exists_next_of_gives_reg (w := .word) (deliver_gives res h nofun rfl rfl)

/-- The value of two words side by side. -/
theorem toNat_append_words (u v : Word) : (u ++ v).toNat = u.toNat * 2 ^ 16 + v.toNat := by
  rw [BitVec.toNat_append, ← Nat.shiftLeft_add_eq_or_of_lt v.isLt, Nat.shiftLeft_eq]

/-- The carry of an adder as a number. -/
theorem toNat_cout {k : Nat} (u v : BitVec k) (c : Bool) :
    (addW u v c).cout.toNat = if 2 ^ k ≤ u.toNat + v.toNat + c.toNat then 1 else 0 := by
  rw [Adder.addW_cout]
  split
  · next h => rw [decide_eq_true h]; rfl
  · next h => rw [decide_eq_false h]; rfl

/-- Two 16-bit adders chained through the carry are a 32-bit adder. -/
theorem addW_append (u₁ u₀ v₁ v₀ : Word) (c : Bool) :
    (addW u₁ v₁ (addW u₀ v₀ c).cout).sum ++ (addW u₀ v₀ c).sum =
      (addW (u₁ ++ u₀) (v₁ ++ v₀) c).sum ∧
    (addW u₁ v₁ (addW u₀ v₀ c).cout).cout = (addW (u₁ ++ u₀) (v₁ ++ v₀) c).cout := by
  have hu₀ := u₀.isLt
  have hv₀ := v₀.isLt
  have hc := c.toNat_le
  constructor
  · apply BitVec.eq_of_toNat_eq
    rw [toNat_append_words]
    simp only [addW, BitVec.toNat_ofNat, toNat_append_words]
    have hcarry := toNat_cout u₀ v₀ c
    simp only [addW] at hcarry
    rw [hcarry]
    split <;> omega
  · rw [Adder.addW_cout u₁, toNat_cout, Adder.addW_cout (u₁ ++ u₀), toNat_append_words,
      toNat_append_words, decide_eq_decide]
    split <;> omega

/-- TORAR on `x[a]` and then TODRR on `x[b]`, where each adds to the register what `f` makes of Акк
and of Рг.D, and the second takes the carry of the first: one addition on the two registers side by
side. -/
theorem chain_of_addW {a b : Reg} {s : State} (hab : a ≠ b) (f : Word → Word) (c : Bool)
    {op₁ op₂ : TwoOp}
    (h₁ : ∀ (draw : Nat) (r v : Word) (st : Status),
      twoOp parameters draw op₁ r v st = arithResult (addW r (f v) c) st)
    (h₂ : ∀ (draw : Nat) (r v : Word) (st : Status),
      twoOp parameters draw op₂ r v st = arithResult (addW v (f r) st.c) st) :
    ∃ t u, exec (tor1Instr .torar op₁ .word a) s = .next t ∧
      exec (tor1Instr .todrr op₂ .word b) t = .next u ∧
      u.reg b ++ u.reg a = (addW (s.reg b ++ s.reg a) (f s.d ++ f s.acc) c).sum ∧
      u.st.c = (addW (s.reg b ++ s.reg a) (f s.d ++ f s.acc) c).cout := by
  obtain ⟨t, ht, hta, htb, -, htd, htst⟩ :=
    exists_next_of_word _ (exec_instr (.tor1 .torar op₁ .word a) s)
  obtain ⟨u, hu, hub, hua, -, -, hust⟩ :=
    exists_next_of_word _ (exec_instr (.tor1 .todrr op₂ .word b) t)
  simp only [State.operand, loW_word, State.read, Tor1Form.r, Tor1Form.s, h₁] at hta htst
  simp only [State.operand, loW_word, State.read, Tor1Form.r, Tor1Form.s, h₂, htb b hab, htd]
    at hub hust
  have hcarry : t.st.c = (addW (s.reg a) (f s.acc) c).cout := congrArg Status.c htst
  obtain ⟨hsum, hcout⟩ := addW_append (s.reg b) (s.reg a) (f s.d) (f s.acc) c
  refine ⟨t, u, ht, hu, ?_, ?_⟩
  · rw [hua a hab.symm, hta, hub, hcarry]
    exact hsum
  · rw [hust, hcarry]
    exact hcout

/-- Settles O26: ADD has no carry in, and ADDC the carry of ADD. -/
theorem additionChainsThroughCarry : Obligations.AdditionChainsThroughCarry := by
  unfold Obligations.AdditionChainsThroughCarry
  intro a b s hab
  obtain ⟨t, u, ht, hu, hsum, hcout⟩ := chain_of_addW (s := s) hab id false (op₁ := .add)
    (op₂ := .addc) (fun _ _ _ _ => rfl)
    (fun _ r v st => congrArg (arithResult · st) (Adder.addW_comm r v st.c))
  refine ⟨t, u, ht, hu, hsum.trans ?_, hcout.trans (Adder.addW_cout ..)⟩
  rw [Adder.addW_sum]
  exact BitVec.add_zero _

/-- Settles O27: the complement of two words side by side is their complements side by side, so both
subtractions are one addition of the complement with carry in 1. -/
theorem subtractionChainsThroughCarry : Obligations.SubtractionChainsThroughCarry := by
  unfold Obligations.SubtractionChainsThroughCarry
  intro a b s hab
  obtain ⟨t, u, ht, hu, hsum, hcout⟩ := chain_of_addW (s := s) hab (fun v => ~~~v) true (op₁ := .subs)
    (op₂ := .subrc) (fun _ _ _ _ => rfl) (fun _ _ _ _ => rfl)
  have hnot : ~~~s.d ++ ~~~s.acc = ~~~(s.d ++ s.acc) := BitVec.not_append.symm
  rw [hnot] at hsum hcout
  refine ⟨t, u, ht, hu, hsum.trans ?_, hcout.trans (Adder.addW_complement_cout ..)⟩
  exact congrArg AluResult.value (Adder.arithResult_addW_complement (by decide) _ _ s.st)

/-- Settles O25: each operation acts on its operands bit by bit. -/
theorem logicResult : Obligations.LogicResult := by
  unfold Obligations.LogicResult
  intro w a imm s row hrow
  have hr := fun j (hj : j < w.bits) => Shifts.getLsbD_loW w row.r hj
  have hs := fun j (hj : j < w.bits) => Shifts.getLsbD_loW w row.s hj
  simp only [List.forall_mem_cons]
  refine ⟨⟨loW w row.r &&& loW w row.s, fun j hj => ?and, gives_twoRow hrow (logicResult_eq _ _)⟩,
    ⟨~~~(loW w row.r &&& loW w row.s), fun j hj => ?nand, gives_twoRow hrow (logicResult_eq _ _)⟩,
    ⟨loW w row.r ^^^ loW w row.s, fun j hj => ?exor, gives_twoRow hrow (logicResult_eq _ _)⟩,
    ⟨~~~(loW w row.r ||| loW w row.s), fun j hj => ?nor, gives_twoRow hrow (logicResult_eq _ _)⟩,
    ⟨loW w row.r ||| loW w row.s, fun j hj => ?or, gives_twoRow hrow (logicResult_eq _ _)⟩,
    ⟨~~~(loW w row.r ^^^ loW w row.s), fun j hj => ?exnor, gives_twoRow hrow (logicResult_eq _ _)⟩,
    List.forall_mem_nil _⟩
  case and => rw [BitVec.getLsbD_and, hr j hj, hs j hj]
  case nand =>
    rw [BitVec.getLsbD_not, BitVec.getLsbD_and, hr j hj, hs j hj, decide_eq_true hj, Bool.true_and]
  case exor => rw [BitVec.getLsbD_xor, hr j hj, hs j hj]
  case nor =>
    rw [BitVec.getLsbD_not, BitVec.getLsbD_or, hr j hj, hs j hj, decide_eq_true hj, Bool.true_and]
  case or => rw [BitVec.getLsbD_or, hr j hj, hs j hj]
  case exnor =>
    rw [BitVec.getLsbD_not, BitVec.getLsbD_xor, hr j hj, hs j hj, decide_eq_true hj, Bool.true_and]
    cases row.r.getLsbD j <;> cases row.s.getLsbD j <;> rfl

end Sys2Proof.TwoOperand

/-! # Shifts: the result and its inverse -/

namespace Sys2Proof.ShiftResults

open Sys2Proof.Machine Sys2Proof.Claims Sys2Proof.Results

variable {k : Nat}

/-- The bits of an up shift (R202): the input below, every bit of the operand one place up. -/
theorem getLsbD_shiftUp (v : BitVec k) (x : Bool) (hk : 0 < k) :
    (shiftUp v x).getLsbD 0 = x ∧ ∀ j, j + 1 < k → (shiftUp v x).getLsbD (j + 1) = v.getLsbD j := by
  refine ⟨?_, fun j hj => ?_⟩
  · simp [shiftUp, BitVec.getLsbD_setWidth, BitVec.getLsbD_ofBool, hk, -BitVec.getLsbD_eq_getElem]
  · simp [shiftUp, BitVec.getLsbD_setWidth, hj, -BitVec.getLsbD_eq_getElem]

/-- The bits of a down shift (R202): the input on top, every bit of the operand one place down. -/
theorem getLsbD_shiftDown (v : BitVec k) (x : Bool) (hk : 0 < k) :
    (shiftDown v x).getLsbD (k - 1) = x ∧
      ∀ j, j + 1 < k → (shiftDown v x).getLsbD j = v.getLsbD (j + 1) := by
  have hx (j : Nat) (hj : j < k) :
      ((BitVec.ofBool x).setWidth k <<< (k - 1)).getLsbD j = (decide (j = k - 1) && x) := by
    rw [BitVec.getLsbD_shiftLeft, BitVec.getLsbD_setWidth, BitVec.getLsbD_ofBool]
    by_cases h : j = k - 1
    · simp [h, hk]
    · simp [h, show j < k - 1 by omega]
  refine ⟨?_, fun j hj => ?_⟩
  · rw [shiftDown, BitVec.getLsbD_or, hx _ (by omega), BitVec.getLsbD_ushiftRight,
      BitVec.getLsbD_of_ge _ _ (by omega)]
    simp
  · rw [shiftDown, BitVec.getLsbD_or, hx _ (by omega), BitVec.getLsbD_ushiftRight, Nat.add_comm,
      decide_eq_false (by omega), Bool.false_and, Bool.or_false]

/-- No row of Табл. 10.14 has Рг.D as its destination. -/
theorem dst_ne_d_of_mem {w : Width} {a : Reg} {s : State} {row : ShiftRow}
    (hrow : row ∈ shiftRows w a s) : row.dst ≠ .d := by
  revert row
  simp only [shiftRows, List.forall_mem_cons]
  exact ⟨nofun, nofun, nofun, nofun, nofun, nofun, List.forall_mem_nil _⟩

/-- The instruction of a row gives the shift of the row's source, with the bit shifted out in L. -/
theorem gives_shiftRow {w : Width} {a : Reg} {s : State} {row : ShiftRow}
    (hrow : row ∈ shiftRows w a s) (op : ShiftOp) :
    Gives (row.instr op) w row.dst (shiftOp op (loW w row.src) s.st).value
      { flagsOf (shiftOp op (loW w row.src) s.st).value false false s.st with
        l := row.src.getLsbD (Shifts.outPlace w.bits op) } 1 s := by
  obtain ⟨src, hsrc, -, hexec⟩ := Shifts.exec_shiftRow hrow
  refine deliver_gives (shiftOp op (loW w row.src) s.st) ?_ (dst_ne_d_of_mem hrow) rfl ?_
  · rw [hexec, ← hsrc]; rfl
  · rw [Shifts.shiftOp_st, Shifts.getLsbD_loW w _ (Shifts.outPlace_lt_bits w op)]

/-- Settles O28: the three operations shift up, with the inputs of R204 to R206. -/
theorem shiftUpResult : Obligations.ShiftUpResult := by
  unfold Obligations.ShiftUpResult
  intro w a s row hrow p hp
  have hop : shiftsUp p.1 = true ∧ shiftIn p.1 s.st = p.2 := by
    revert p
    simp only [List.forall_mem_cons]
    exact ⟨⟨rfl, rfl⟩, ⟨rfl, rfl⟩, ⟨rfl, rfl⟩, List.forall_mem_nil _⟩
  have hvalue : (shiftOp p.1 (loW w row.src) s.st).value = shiftUp (loW w row.src) p.2 := by
    simp only [shiftOp, if_pos hop.1, hop.2]
  have hplace : Shifts.outPlace w.bits p.1 = w.bits - 1 := if_pos ((Shifts.shiftsUp_iff _).1 hop.1)
  obtain ⟨hin, hmove⟩ := getLsbD_shiftUp (loW w row.src) p.2 (bits_pos w)
  refine ⟨_, hin, fun j hj => ?_, hvalue ▸ hplace ▸ gives_shiftRow hrow p.1⟩
  rw [hmove j hj, Shifts.getLsbD_loW w _ (by omega)]

/-- Settles O29: the five operations shift down, with the inputs of R207 to R211. -/
theorem shiftDownResult : Obligations.ShiftDownResult := by
  unfold Obligations.ShiftDownResult
  intro w a s row hrow p hp
  have hop : ¬ shiftsUp p.1 = true ∧ shiftIn p.1 s.st = p.2 := by
    revert p
    simp only [List.forall_mem_cons]
    exact ⟨⟨nofun, rfl⟩, ⟨nofun, rfl⟩, ⟨nofun, rfl⟩, ⟨nofun, rfl⟩, ⟨nofun, rfl⟩, List.forall_mem_nil _⟩
  have hvalue : (shiftOp p.1 (loW w row.src) s.st).value = shiftDown (loW w row.src) p.2 := by
    simp only [shiftOp, if_neg hop.1, hop.2]
  have hplace : Shifts.outPlace w.bits p.1 = 0 := if_neg (mt (Shifts.shiftsUp_iff _).2 hop.1)
  obtain ⟨hin, hmove⟩ := getLsbD_shiftDown (loW w row.src) p.2 (bits_pos w)
  refine ⟨_, hin, fun j hj => ?_, hvalue ▸ hplace ▸ gives_shiftRow hrow p.1⟩
  rw [hmove j hj, Shifts.getLsbD_loW w _ hj]

/-- A down shift with the bit that an up shift moved out undoes the up shift. -/
theorem shiftDown_shiftUp (v : BitVec k) (x : Bool) (hk : 0 < k) :
    shiftDown (shiftUp v x) (v.getLsbD (k - 1)) = v := by
  obtain ⟨-, hup⟩ := getLsbD_shiftUp v x hk
  obtain ⟨htop, hdown⟩ := getLsbD_shiftDown (shiftUp v x) (v.getLsbD (k - 1)) hk
  apply BitVec.eq_of_getLsbD_eq
  intro i hi
  by_cases hlast : i + 1 < k
  · rw [hdown i hlast, hup i hlast]
  · obtain rfl : i = k - 1 := by omega
    exact htop

/-- Settles O31: SHUPL moves the top bit to L, from where SHDNL takes it, and SHDNL moves bit 0,
which is the old L, back to L. -/
theorem linkRotatesUndoEachOther : Obligations.LinkRotatesUndoEachOther := by
  unfold Obligations.LinkRotatesUndoEachOther
  intro w a s
  have hrow (s : State) : (⟨fun op => shftrInstr .shrr op w a, s.reg a, .reg a⟩ : ShiftRow) ∈
      shiftRows w a s := List.mem_cons_self
  obtain ⟨t, ht, hta, -, -, -, htst⟩ := exists_next_of_gives_reg (gives_shiftRow (hrow s) .shupl)
  obtain ⟨u, hu, hua, -, -, -, hust⟩ := exists_next_of_gives_reg (gives_shiftRow (hrow t) .shdnl)
  have hlow : loW w (t.reg a) = shiftUp (loW w (s.reg a)) s.st.l := by rw [hta, loW_writeW]; rfl
  have hlink : t.st.l = (loW w (s.reg a)).getLsbD (w.bits - 1) := by
    rw [htst, Shifts.getLsbD_loW w _ (Nat.sub_lt (bits_pos w) Nat.one_pos)]
    rfl
  refine ⟨t, u, ht, hu, ?_, ?_⟩
  · have hvalue : (shiftOp .shdnl (loW w (t.reg a)) t.st).value = loW w (s.reg a) := by
      show shiftDown (loW w (t.reg a)) t.st.l = _
      rw [hlow, hlink, shiftDown_shiftUp _ _ (bits_pos w)]
    rw [hua, hvalue, hta, writeW_writeW, writeW_loW]
  · rw [hust, ← (getLsbD_shiftUp (loW w (s.reg a)) s.st.l (bits_pos w)).1, ← hlow]
    exact (Shifts.getLsbD_loW w _ (bits_pos w)).symm

end Sys2Proof.ShiftResults

/-! # Bit instructions -/

namespace Sys2Proof.BitResults

open Sys2Proof.Machine Sys2Proof.Claims Sys2Proof.Results

/-- The rows of each kind of bit instruction. -/
noncomputable def rowsOf (kind : BitKind) (w : Width) (n : BitNo) (a : Reg) (s : State) : List BitRow :=
  match kind with
  | .set => setRows w n a s
  | .reset => resetRows w n a s
  | .test => testRows w n a s
  | .load => loadRows w n a
  | .loadComplement => loadComplementRows w n a
  | .add => addPowerRows w n a s
  | .sub => subtractPowerRows w n a s

/-- Each row runs its kind of operation from a source that reads the row's value to the row's
destination (R234 to R256). -/
theorem exec_bitRow {kind : BitKind} {w : Width} {n : BitNo} {a : Reg} {s : State} {row : BitRow}
    (hrow : row ∈ rowsOf kind w n a s) :
    ∃ src, s.read src = row.src ∧ row.dst ≠ .d ∧
      exec row.instr s = runBit parameters false kind src row.dst w n s := by
  revert row
  cases kind <;> simp only [rowsOf, setRows, resetRows, testRows, loadRows, loadComplementRows,
    addPowerRows, subtractPowerRows, List.forall_mem_cons]
  case set =>
    exact ⟨⟨.reg a, rfl, nofun, exec_instr (.bor1 .setnr w n a) s⟩,
      ⟨.acc, rfl, nofun, exec_instr (.bonr .setna w n) s⟩,
      ⟨.d, rfl, nofun, exec_instr (.bonr .setnd w n) s⟩, List.forall_mem_nil _⟩
  case reset =>
    exact ⟨⟨.reg a, rfl, nofun, exec_instr (.bor1 .rstnr w n a) s⟩,
      ⟨.acc, rfl, nofun, exec_instr (.bonr .rstna w n) s⟩,
      ⟨.d, rfl, nofun, exec_instr (.bonr .rstnd w n) s⟩, List.forall_mem_nil _⟩
  case test =>
    exact ⟨⟨.reg a, rfl, nofun, exec_instr (.bor1 .tstnr w n a) s⟩,
      ⟨.acc, rfl, nofun, exec_instr (.bonr .tstna w n) s⟩,
      ⟨.d, rfl, nofun, exec_instr (.bonr .tstnd w n) s⟩, List.forall_mem_nil _⟩
  case load =>
    exact ⟨⟨.zero, rfl, nofun, exec_instr (.bor2 .ld2nr w n a) s⟩,
      ⟨.zero, rfl, nofun, exec_instr (.bonr .ld2na w n) s⟩,
      ⟨.zero, rfl, nofun, exec_instr (.bonr .ld2ny w n) s⟩, List.forall_mem_nil _⟩
  case loadComplement =>
    exact ⟨⟨.zero, rfl, nofun, exec_instr (.bor2 .ldc2nr w n a) s⟩,
      ⟨.zero, rfl, nofun, exec_instr (.bonr .ldc2na w n) s⟩,
      ⟨.zero, rfl, nofun, exec_instr (.bonr .ldc2ny w n) s⟩, List.forall_mem_nil _⟩
  case add =>
    exact ⟨⟨.reg a, rfl, nofun, exec_instr (.bor2 .a2nr w n a) s⟩,
      ⟨.acc, rfl, nofun, exec_instr (.bonr .a2na w n) s⟩,
      ⟨.d, rfl, nofun, exec_instr (.bonr .a2ndy w n) s⟩, List.forall_mem_nil _⟩
  case sub =>
    exact ⟨⟨.reg a, rfl, nofun, exec_instr (.bor2 .s2nr w n a) s⟩,
      ⟨.acc, rfl, nofun, exec_instr (.bonr .s2na w n) s⟩,
      ⟨.d, rfl, nofun, exec_instr (.bonr .s2ndy w n) s⟩, List.forall_mem_nil _⟩

/-- The instruction of a row, with a bit number below the width, gives the operation on the row's
operand and 2^n (R233). -/
theorem gives_bitRow {kind : BitKind} {w : Width} {n : BitNo} {a : Reg} {s : State} {row : BitRow}
    (hn : n.toNat < w.bits) (hrow : row ∈ rowsOf kind w n a s) {r : BitVec w.bits} {flags : Status}
    (h : bitOp parameters false kind (loW w row.src) (bitMask w.bits n.toNat) s.st = ⟨r, flags⟩) :
    Gives row.instr w row.dst r flags 1 s := by
  have hfits : bitNumberFits w n = true := by
    cases w with
    | word => rfl
    | byte => exact decide_eq_true hn
  obtain ⟨src, hsrc, hdst, hexec⟩ := exec_bitRow hrow
  refine deliver_gives ⟨r, flags⟩ ?_ hdst rfl rfl
  rw [hexec, Effects.runBit_of_fits hfits, ← h, ← hsrc]
  rfl

/-- 2^n has bit n alone. -/
theorem getLsbD_bitMask {k n : Nat} (hn : n < k) (j : Nat) :
    (bitMask k n).getLsbD j = decide (j = n) := by
  rw [bitMask, ← BitVec.twoPow_eq, BitVec.getLsbD_twoPow, decide_eq_true hn, Bool.true_and,
    decide_eq_decide]
  exact eq_comm

/-- 2^n as a number of the width. -/
theorem bitMask_eq_ofNat (k n : Nat) : bitMask k n = BitVec.ofNat k (2 ^ n) := by
  apply BitVec.eq_of_toNat_eq
  rw [bitMask, ← BitVec.twoPow_eq, BitVec.toNat_twoPow, BitVec.toNat_ofNat]

/-- Settles O32: OR with 2^n and AND with its complement, bit by bit. -/
theorem bitSetResetResult : Obligations.BitSetResetResult := by
  unfold Obligations.BitSetResetResult
  refine fun w n a s hn => ⟨fun row hrow => ?set, fun row hrow => ?reset⟩
  case set =>
    refine ⟨_, fun j hj => ?_, gives_bitRow (kind := .set) hn hrow (logicResult_eq _ _)⟩
    rw [BitVec.getLsbD_or, getLsbD_bitMask hn, Shifts.getLsbD_loW w _ hj]
    by_cases h : j = n.toNat <;> simp [h]
  case reset =>
    refine ⟨_, fun j hj => ?_, gives_bitRow (kind := .reset) hn hrow (logicResult_eq _ _)⟩
    rw [BitVec.getLsbD_and, BitVec.getLsbD_not, getLsbD_bitMask hn, Shifts.getLsbD_loW w _ hj,
      decide_eq_true hj, Bool.true_and]
    by_cases h : j = n.toNat <;> simp [h]

/-- Settles O33: AND with 2^n leaves bit n, and is 0 exactly where bit n is. -/
theorem bitTestResult : Obligations.BitTestResult := by
  unfold Obligations.BitTestResult
  intro w n a s hn row hrow
  have hbits (j : Nat) (hj : j < w.bits) :
      (loW w row.src &&& bitMask w.bits n.toNat).getLsbD j =
        if j = n.toNat then row.src.getLsbD j else false := by
    rw [BitVec.getLsbD_and, getLsbD_bitMask hn, Shifts.getLsbD_loW w _ hj]
    by_cases h : j = n.toNat <;> simp [h]
  refine ⟨_, hbits, ?_, gives_bitRow (kind := .test) hn hrow (logicResult_eq _ _)⟩
  rw [BitVec.eq_of_getLsbD_eq_iff]
  constructor
  · intro h
    rw [← if_pos (c := n.toNat = n.toNat) rfl (t := row.src.getLsbD n.toNat) (e := false),
      ← hbits _ hn, h _ hn]
    exact BitVec.getLsbD_zero
  · intro hzero j hj
    rw [hbits j hj]
    by_cases h : j = n.toNat <;> simp [h, hzero]

/-- Settles O34: the load of 2^n has bit n alone, its complement every other bit. -/
theorem bitLoadResult : Obligations.BitLoadResult := by
  unfold Obligations.BitLoadResult
  refine fun w n a s hn => ⟨fun row hrow => ?load, fun row hrow => ?complement⟩
  case load =>
    exact ⟨_, fun j _ => getLsbD_bitMask hn j,
      gives_bitRow (kind := .load) hn hrow (logicResult_eq _ _)⟩
  case complement =>
    refine ⟨_, fun j hj => ?_, gives_bitRow (kind := .loadComplement) hn hrow (logicResult_eq _ _)⟩
    rw [BitVec.getLsbD_not, getLsbD_bitMask hn, decide_eq_true hj, Bool.true_and, decide_not]

/-- Settles O35: A2N adds 2^n without carry in, and S2N subtracts it. -/
theorem bitAddSubtractResult : Obligations.BitAddSubtractResult := by
  unfold Obligations.BitAddSubtractResult
  intro w n a s hn
  have hmask := bitMask_eq_ofNat w.bits n.toNat
  have htoNat : (BitVec.ofNat w.bits (2 ^ n.toNat)).toNat = 2 ^ n.toNat := by
    rw [BitVec.toNat_ofNat, Nat.mod_eq_of_lt (Nat.pow_lt_pow_right Nat.one_lt_two hn)]
  refine ⟨fun row hrow => gives_bitRow (kind := .add) hn hrow ?_,
    fun row hrow => gives_bitRow (kind := .sub) hn hrow ?_⟩
  · show arithResult (addW _ _ false) s.st = _
    rw [Adder.arithResult_addW (bits_pos w), hmask, htoNat]
    simp
  · show subtract parameters _ _ s.st = _
    rw [Adder.subtract_eq (bits_pos w), hmask, htoNat]

end Sys2Proof.BitResults

/-! # Rotates, and the rotates under a mask -/

namespace Sys2Proof.RotateResults

open Sys2Proof.Machine Sys2Proof.Claims Sys2Proof.Results

/-- The bits of a left rotate (R272). The count is taken modulo the width (D19), which divides 16.
-/
theorem getLsbD_rotl (w : Width) (v : BitVec w.bits) (n : BitNo) {i : Nat} (hi : i < w.bits) :
    (rotl v n).getLsbD i = rotatedBit v n i := by
  have hn : n.toNat < 16 := n.isLt
  rw [rotl, rotatedBit, BitVec.getLsbD_rotateLeft]
  by_cases hlow : i < n.toNat % w.bits
  · have hplace : w.bits - n.toNat % w.bits + i = (i + 16 - n.toNat) % w.bits := by
      cases w <;> simp only [Width.bits] at hlow hi ⊢ <;> omega
    rw [decide_eq_true hlow, cond_true, hplace]
  · have hplace : i - n.toNat % w.bits = (i + 16 - n.toNat) % w.bits := by
      cases w <;> simp only [Width.bits] at hlow hi ⊢ <;> omega
    rw [decide_eq_false hlow, cond_false, decide_eq_true hi, Bool.true_and, hplace]

/-- A rotate by n and a rotate by 16 - n make a whole turn. -/
theorem rotl_rotl_neg (w : Width) (v : BitVec w.bits) (n : BitNo) : rotl (rotl v n) (-n) = v := by
  have hn : n.toNat < 16 := n.isLt
  apply BitVec.eq_of_getLsbD_eq
  intro i hi
  have hneg : (-n).toNat = (16 - n.toNat) % 16 := BitVec.toNat_neg n
  have hinside : (i + 16 - (-n).toNat) % w.bits < w.bits := Nat.mod_lt _ (bits_pos w)
  rw [getLsbD_rotl w _ _ hi, rotatedBit, getLsbD_rotl w _ _ hinside, rotatedBit, hneg]
  congr 1
  cases w <;> simp only [Width.bits] at hi ⊢ <;> omega

/-- The instruction of each of the nine rows gives the rotate of the row's source. -/
theorem gives_rotateRow {w : Width} {n : BitNo} {a : Reg} {s : State} {row : RotateRow}
    (hrow : row ∈ rotateRows w n a s) :
    Gives row.instr w row.dst (rotl (loW w row.src) n)
      (flagsOf (rotl (loW w row.src) n) false false s.st) 1 s := by
  have hexec : row.dst ≠ .d ∧ exec row.instr s =
      s.deliver parameters w row.dst (logicResult (rotl (loW w row.src) n) s.st) 1 := by
    revert row
    simp only [rotateRows, List.forall_mem_cons]
    exact ⟨⟨nofun, exec_instr (.rotr1 .rtra w n a) s⟩, ⟨nofun, exec_instr (.rotr1 .rtry w n a) s⟩,
      ⟨nofun, exec_instr (.rotr1 .rtrr w n a) s⟩, ⟨nofun, exec_instr (.rotr2 .rtar w n a) s⟩,
      ⟨nofun, exec_instr (.rotr2 .rtdr w n a) s⟩, ⟨nofun, exec_instr (.rotnr .rtdy w n) s⟩,
      ⟨nofun, exec_instr (.rotnr .rtda w n) s⟩, ⟨nofun, exec_instr (.rotnr .rtay w n) s⟩,
      ⟨nofun, exec_instr (.rotnr .rtaa w n) s⟩, List.forall_mem_nil _⟩
  exact deliver_gives _ hexec.2 hexec.1 rfl (logicFlags_eq _ _)

/-- Settles O36: the bits of `rotl` in every row. -/
theorem rotateResult : Obligations.RotateResult := by
  unfold Obligations.RotateResult
  exact fun w n a s row hrow => ⟨_, fun i hi => getLsbD_rotl w _ n hi, gives_rotateRow hrow⟩

/-- Settles O37: the second rotate completes the turn of the first. -/
theorem rotatesUndoEachOther : Obligations.RotatesUndoEachOther := by
  unfold Obligations.RotatesUndoEachOther
  intro w n a s
  have hrow (n : BitNo) (s : State) :
      (⟨.rotr1Rtrr w n a, s.reg a, .reg a⟩ : RotateRow) ∈ rotateRows w n a s :=
    .tail _ (.tail _ (.head _))
  obtain ⟨t, ht, hta, -⟩ := exists_next_of_gives_reg (gives_rotateRow (hrow n s))
  obtain ⟨u, hu, hua, -⟩ := exists_next_of_gives_reg (gives_rotateRow (hrow (-n) t))
  refine ⟨t, u, ht, hu, ?_⟩
  rw [hua, hta, loW_writeW, rotl_rotl_neg, writeW_writeW, writeW_loW]

/-! ## Compare and merge -/

/-- The instruction of each row of ROTC gives the masked difference (R291). -/
theorem gives_compareRow {w : Width} {n : BitNo} {a : Reg} {imm : Word} {s : State} {row : MaskRow}
    (hrow : row ∈ compareRows w n a imm s) {r : BitVec w.bits}
    (hr : compareMasked (rotl (loW w row.u) n) (loW w row.r) (loW w row.mask) = r) :
    Gives row.instr w row.dst r (flagsOf r false false s.st) row.words s := by
  have hexec : row.dst ≠ .d ∧ exec row.instr s = s.deliver parameters w row.dst
      (logicResult (compareMasked (rotl (loW w row.u) n) (loW w row.r) (loW w row.mask)) s.st)
      row.words := by
    clear hr
    revert row
    simp only [compareRows, List.forall_mem_cons]
    exact ⟨⟨nofun, exec_instr (.rotc (.cdai imm) w n a) s⟩,
      ⟨nofun, exec_instr (.rotc (.cdri imm) w n a) s⟩, ⟨nofun, exec_instr (.rotc .cdra w n a) s⟩,
      ⟨nofun, exec_instr (.rotc (.crai imm) w n a) s⟩, List.forall_mem_nil _⟩
  exact deliver_gives _ hexec.2 hexec.1 hr (hr ▸ logicFlags_eq _ _)

/-- The instruction of each row of ROTM gives the merge (R297). -/
theorem gives_mergeRow {w : Width} {n : BitNo} {a : Reg} {imm : Word} {s : State} {row : MaskRow}
    (hrow : row ∈ mergeRows w n a imm s) {r : BitVec w.bits}
    (hr : mergeMasked (rotl (loW w row.u) n) (loW w row.r) (loW w row.mask) = r) :
    Gives row.instr w row.dst r (flagsOf r false false s.st) row.words s := by
  have hexec : row.dst ≠ .d ∧ exec row.instr s = s.deliver parameters w row.dst
      (logicResult (mergeMasked (rotl (loW w row.u) n) (loW w row.r) (loW w row.mask)) s.st)
      row.words := by
    clear hr
    revert row
    simp only [mergeRows, List.forall_mem_cons]
    exact ⟨⟨nofun, exec_instr (.rotm (.mdai imm) w n a) s⟩,
      ⟨nofun, exec_instr (.rotm .mdar w n a) s⟩, ⟨nofun, exec_instr (.rotm (.mdri imm) w n a) s⟩,
      ⟨nofun, exec_instr (.rotm .mdra w n a) s⟩, ⟨nofun, exec_instr (.rotm (.mari imm) w n a) s⟩,
      ⟨nofun, exec_instr (.rotm (.mrai imm) w n a) s⟩, List.forall_mem_nil _⟩
  exact deliver_gives _ hexec.2 hexec.1 hr (hr ▸ logicFlags_eq _ _)

/-- A bit of the masked difference. -/
theorem getLsbD_compareMasked {k : Nat} (u r m : BitVec k) {i : Nat} (hi : i < k) :
    (compareMasked u r m).getLsbD i = (!m.getLsbD i && (u.getLsbD i != r.getLsbD i)) := by
  rw [compareMasked, BitVec.getLsbD_xor, BitVec.getLsbD_and, BitVec.getLsbD_and, BitVec.getLsbD_not,
    decide_eq_true hi, Bool.true_and]
  cases m.getLsbD i <;> simp

/-- A bit of the merge. -/
theorem getLsbD_mergeMasked {k : Nat} (u r m : BitVec k) {i : Nat} (hi : i < k) :
    (mergeMasked u r m).getLsbD i = if m.getLsbD i then u.getLsbD i else r.getLsbD i := by
  rw [mergeMasked, BitVec.getLsbD_or, BitVec.getLsbD_and, BitVec.getLsbD_and, BitVec.getLsbD_not,
    decide_eq_true hi, Bool.true_and]
  cases m.getLsbD i <;> simp

/-- Settles O38: the masked difference is 0 where no unmasked position differs. -/
theorem compareResult : Obligations.CompareResult := by
  unfold Obligations.CompareResult
  intro w n a imm s row hrow
  have hbits (i : Nat) (hi : i < w.bits) :
      (compareMasked (rotl (loW w row.u) n) (loW w row.r) (loW w row.mask)).getLsbD i =
        (!row.mask.getLsbD i && (rotatedBit (loW w row.u) n i != row.r.getLsbD i)) := by
    rw [getLsbD_compareMasked _ _ _ hi, getLsbD_rotl w _ n hi, Shifts.getLsbD_loW w _ hi,
      Shifts.getLsbD_loW w _ hi]
  refine ⟨_, hbits, ?_, gives_compareRow hrow rfl⟩
  rw [BitVec.eq_of_getLsbD_eq_iff]
  refine forall_congr' fun i => forall_congr' fun hi => ?_
  rw [hbits i hi]
  cases row.mask.getLsbD i <;> simp

/-- Settles O39: the mask selects, bit by bit, between the rotated operand and the other one. -/
theorem mergeResult : Obligations.MergeResult := by
  unfold Obligations.MergeResult
  refine fun w n a imm s row hrow => ⟨_, fun i hi => ?_, gives_mergeRow hrow rfl⟩
  rw [getLsbD_mergeMasked _ _ _ hi, getLsbD_rotl w _ n hi, Shifts.getLsbD_loW w _ hi,
    Shifts.getLsbD_loW w _ hi]

end Sys2Proof.RotateResults

/-! # Prioritize -/

namespace Sys2Proof.PriorityResults

open Sys2Proof.Machine Sys2Proof.Claims Sys2Proof.Results

variable {k : Nat}

/-- There is no highest 1 where there is no 1. -/
theorem highestOne_eq_none {t : BitVec k} {m : Nat} (h : ∀ j < m, t.getLsbD j = false) :
    highestOne t m = none := by
  induction m with
  | zero => rfl
  | succ m ih =>
    rw [highestOne, h m (Nat.lt_succ_self m)]
    exact ih fun j hj => h j (Nat.lt_succ_of_lt hj)

/-- The highest 1 is a 1 above which there is none. -/
theorem highestOne_eq_some {t : BitVec k} {j m : Nat} (hj : j < m) (hone : t.getLsbD j = true)
    (habove : ∀ i < m, j < i → t.getLsbD i = false) : highestOne t m = some j := by
  induction m with
  | zero => omega
  | succ m ih =>
    rw [highestOne]
    by_cases h : j = m
    · rw [← h, if_pos hone]
    · rw [habove m (Nat.lt_succ_self m) (by omega)]
      exact ih (by omega) fun i hi => habove i (Nat.lt_succ_of_lt hi)

/-- The code of no bit (R311 at its default). -/
theorem prioCode_of_none {t : BitVec k} (draw : Nat) (h : ∀ j < k, t.getLsbD j = false) :
    prioCode parameters draw t = 0 := by
  simp only [prioCode, highestOne_eq_none h, parameters]

/-- The code of the highest bit: its distance from the top, counted from 1 (R311 at its default). -/
theorem toNat_prioCode {t : BitVec k} (draw : Nat) {j : Nat} (hj : j < k) (hone : t.getLsbD j = true)
    (habove : ∀ i < k, j < i → t.getLsbD i = false) :
    (prioCode parameters draw t).toNat = k - j := by
  simp only [prioCode, highestOne_eq_some hj hone habove, parameters, BitVec.toNat_ofNat]
  exact Nat.mod_eq_of_lt (Nat.lt_of_le_of_lt (Nat.sub_le k j) Nat.lt_two_pow_self)

/-- The unmasked bits of a row's operand. -/
def unmasked (w : Width) (row : PriorityRow) : BitVec w.bits := loW w row.r &&& ~~~loW w row.mask

/-- A row of the prioritize tables delivers the code of the row's unmasked bits to the row's
destination. -/
def RunsPriority (w : Width) (s : State) (row : PriorityRow) : Prop :=
  row.dst ≠ .d ∧ exec row.instr s = s.deliver parameters w row.dst
    (logicResult (prioCode parameters s.draws (unmasked w row)) s.st) row.words

/-- The thirty rows (R313 to R329): operand and mask come from different sources, so none is
refused. -/
theorem runsPriority_of_mem {w : Width} {a : Reg} {imm : Word} {s : State} {row : PriorityRow}
    (hrow : row ∈ priorityRows w a imm s) : RunsPriority w s row := by
  revert row
  simp only [priorityRows, List.forall_mem_cons]
  exact ⟨⟨nofun, exec_instr (.prt1 .pr1a .prt1a w a) s⟩,
    ⟨nofun, exec_instr (.prt1 .pr1a .prt1d w a) s⟩,
    ⟨nofun, exec_instr (.prt1 .pr1y .prt1a w a) s⟩,
    ⟨nofun, exec_instr (.prt1 .pr1y .prt1d w a) s⟩,
    ⟨nofun, exec_instr (.prt1 .pr1r .prt1a w a) s⟩,
    ⟨nofun, exec_instr (.prt1 .pr1r .prt1d w a) s⟩,
    ⟨nofun, exec_instr (.prt2 .pra .pr2a w a) s⟩,
    ⟨nofun, exec_instr (.prt2 .pra .pr2y w a) s⟩,
    ⟨nofun, exec_instr (.prt2 .prz .pr2a w a) s⟩,
    ⟨nofun, exec_instr (.prt2 .prz .pr2y w a) s⟩,
    ⟨nofun, exec_instr (.prt2 (.pri imm) .pr2a w a) s⟩,
    ⟨nofun, exec_instr (.prt2 (.pri imm) .pr2y w a) s⟩,
    ⟨nofun, exec_instr (.prt3 .pra .pr3r w a) s⟩,
    ⟨nofun, exec_instr (.prt3 .pra .pr3d w a) s⟩,
    ⟨nofun, exec_instr (.prt3 .prz .pr3r w a) s⟩,
    ⟨nofun, exec_instr (.prt3 .prz .pr3a w a) s⟩,
    ⟨nofun, exec_instr (.prt3 .prz .pr3d w a) s⟩,
    ⟨nofun, exec_instr (.prt3 (.pri imm) .pr3r w a) s⟩,
    ⟨nofun, exec_instr (.prt3 (.pri imm) .pr3a w a) s⟩,
    ⟨nofun, exec_instr (.prt3 (.pri imm) .pr3d w a) s⟩,
    ⟨nofun, exec_instr (.prtnr .pra .prtd .nry w) s⟩,
    ⟨nofun, exec_instr (.prtnr .pra .prtd .nra w) s⟩,
    ⟨nofun, exec_instr (.prtnr .prz .prta .nry w) s⟩,
    ⟨nofun, exec_instr (.prtnr .prz .prta .nra w) s⟩,
    ⟨nofun, exec_instr (.prtnr .prz .prtd .nry w) s⟩,
    ⟨nofun, exec_instr (.prtnr .prz .prtd .nra w) s⟩,
    ⟨nofun, exec_instr (.prtnr (.pri imm) .prta .nry w) s⟩,
    ⟨nofun, exec_instr (.prtnr (.pri imm) .prta .nra w) s⟩,
    ⟨nofun, exec_instr (.prtnr (.pri imm) .prtd .nry w) s⟩,
    ⟨nofun, exec_instr (.prtnr (.pri imm) .prtd .nra w) s⟩,
    List.forall_mem_nil _⟩

/-- An unmasked bit (R312). -/
theorem getLsbD_unmasked (w : Width) (row : PriorityRow) {j : Nat} (hj : j < w.bits) :
    (unmasked w row).getLsbD j = (row.r.getLsbD j && !row.mask.getLsbD j) := by
  rw [unmasked, BitVec.getLsbD_and, BitVec.getLsbD_not, decide_eq_true hj, Bool.true_and,
    Shifts.getLsbD_loW w _ hj, Shifts.getLsbD_loW w _ hj]

/-- Settles O40: the code of the unmasked bits, by the two cases of `highestOne`. -/
theorem prioritizeResult : Obligations.PrioritizeResult := by
  unfold Obligations.PrioritizeResult
  intro w a imm s row hrow
  obtain ⟨hdst, hexec⟩ := runsPriority_of_mem hrow
  refine ⟨prioCode parameters s.draws (unmasked w row), fun hnone => ?none,
    fun j hj hone habove => ?some, deliver_gives _ hexec hdst rfl (logicFlags_eq _ _)⟩
  case none => exact prioCode_of_none _ fun j hj => (getLsbD_unmasked w row hj).trans (hnone j hj)
  case some =>
    exact toNat_prioCode _ hj ((getLsbD_unmasked w row hj).trans hone) fun m hm hjm =>
      (getLsbD_unmasked w row hm).trans (habove m hm hjm)

end Sys2Proof.PriorityResults

/-! # The CRC steps mirror each other -/

namespace Sys2Proof.CrcMirror

open Sys2Proof.Machine Sys2Proof.Claims Sys2Proof.Results

/-- A bit of a reversed word. -/
theorem getLsbD_reverse_word (v : Word) {i : Nat} (hi : i < 16) :
    v.reverse.getLsbD i = v.getLsbD (15 - i) := by
  rw [BitVec.getLsbD_reverse, BitVec.getMsbD_eq_getLsbD, decide_eq_true hi, Bool.true_and]

/-- The reverse step on a reversed register with a reversed mask is the forward step, reversed. -/
theorem crcReverse_reverse (v mask : Word) {st st' : Status} (hl : st'.l = st.l) :
    (crcReverse v.reverse mask.reverse st').value = (crcForward v mask st).value.reverse := by
  apply BitVec.eq_of_getLsbD_eq
  intro i hi
  rw [getLsbD_reverse_word _ hi, Crc.getLsbD_crcReverse, Crc.getLsbD_crcForward v mask st (by omega),
    hl, getLsbD_reverse_word v (by decide), getLsbD_reverse_word mask hi]
  by_cases htop : i = 15
  · simp [htop]
  · rw [if_neg htop, if_neg (by omega), getLsbD_reverse_word v (by omega), Nat.sub_sub]

/-- A word is 0 exactly where its reverse is. -/
theorem reverse_eq_zero_iff (v : Word) : v.reverse = 0 ↔ v = 0 := by
  constructor
  · intro h
    rw [← BitVec.reverse_reverse_eq (x := v), h]
    decide
  · rintro rfl
    decide

/-- Settles O43: the values by `crcReverse_reverse`; the bit that leaves one register on top leaves
the other at the bottom. -/
theorem crcStepsMirror : Obligations.CrcStepsMirror := by
  unfold Obligations.CrcStepsMirror
  intro a s u hreg hacc hl
  obtain ⟨t, ht, hta, -, -, -, htst⟩ := TwoOperand.exists_next_of_word _ (exec_instr (.crcf a) s)
  obtain ⟨v, hv, hva, -, -, -, hvst⟩ := TwoOperand.exists_next_of_word _ (exec_instr (.crcr a) u)
  have hvalue := crcReverse_reverse (s.reg a) s.acc hl
  rw [← hreg, ← hacc] at hvalue
  refine ⟨t, v, ht, hv, ?_, ?_, ?_⟩
  · rw [hva, hta, hvalue]
  · rw [hvst, htst, Crc.crcReverse_st, Crc.crcForward_st]
    exact (congrArg (·.getLsbD 0) hreg).trans (getLsbD_reverse_word _ (by decide))
  · rw [hvst, htst, Crc.crcReverse_st, Crc.crcForward_st]
    exact decide_eq_decide.2 (hvalue ▸ reverse_eq_zero_iff _)

end Sys2Proof.CrcMirror

/-! # Status instructions -/

namespace Sys2Proof.StatusResults

open Sys2Proof.Machine Sys2Proof.Claims Sys2Proof.Results

/-! ## Set and reset -/

/-- SETST sets РгС by its operation and puts ones on Y (R350, R352 to R356). -/
theorem setsStatus_setst (op : SetOp) (s : State) :
    SetsStatus (setstInstr op) 0xFFFF (setStatus op s.st) s :=
  ⟨_, exec_instr (.setst op) s, rfl, rfl,
    NoOperation.finish_keepsRegisters { s with st := setStatus op s.st } _ _⟩

/-- RSTST sets РгС by its operation and puts zeros on Y (R351, R357 to R361). -/
theorem setsStatus_rstst (op : RstOp) (s : State) :
    SetsStatus (rststInstr op) 0 (resetStatus op s.st) s :=
  ⟨_, exec_instr (.rstst op) s, rfl, rfl,
    NoOperation.finish_keepsRegisters { s with st := resetStatus op s.st } _ _⟩

/-- Settles O44: the model's `setStatus`, for each operation. -/
theorem setStatusResult : Obligations.SetStatusResult := by
  unfold Obligations.SetStatusResult
  exact fun s => ⟨setsStatus_setst .sonccz s, setsStatus_setst .sl s, setsStatus_setst .sf1 s,
    setsStatus_setst .sf2 s, setsStatus_setst .sf3 s⟩

/-- Settles O45: the model's `resetStatus`, for each operation. -/
theorem resetStatusResult : Obligations.ResetStatusResult := by
  unfold Obligations.ResetStatusResult
  exact fun s => ⟨setsStatus_rstst .ronccz s, setsStatus_rstst .rl s, setsStatus_rstst .rf1 s,
    setsStatus_rstst .rf2 s, setsStatus_rstst .rf3 s⟩

/-! ## Save and load -/

/-- The word a save puts on Y and writes: РгС in the low byte (R371). -/
theorem savedWord_eq (st : Status) :
    (st.toByte parameters.stLayout).setWidth 16 = 0x00#8 ++ statusByte st := by
  rw [BitVec.setWidth_eq_append (by decide)]
  rfl

/-- A save completes with РгС on Y and in its destination, and leaves РгС (R371, D24). -/
theorem exists_next_of_save {i : Instr} {w : Width} {dst : Dst} {s : State}
    (hexec : exec i s = runSave parameters dst w s)
    (hd : dst ≠ .d) (hst : dst.loadsStatus = false) :
    ∃ t, exec i s = .next t ∧ t.y = 0x00#8 ++ statusByte s.st ∧
      Delivers w dst (loW w (0x00#8 ++ statusByte s.st)) s.st 1 s t := by
  have hload : ¬(dst = .st ∨ dst = .accSt) := by rintro (rfl | rfl) <;> cases hst
  rw [hexec, runSave]
  simp only [savedWord_eq]
  refine ⟨_, rfl, rfl, rfl, s.write_acc .., fun b => s.write_reg .., ?_, ?_, ?_, ?_, ?_⟩
  · rw [State.finish_d, State.write_d, if_neg hd]
  · rw [State.finish_st, State.write_st, if_neg hload]
  · rw [State.finish_ip, State.write_ip]
  · rw [State.finish_prog, State.write_prog]
  · rw [State.finish_dFeed, State.write_dFeed]

/-- Settles O46: SVSTR and both destinations of SVSTNR run one save. -/
theorem saveStatusResult : Obligations.SaveStatusResult := by
  unfold Obligations.SaveStatusResult
  intro w a s
  simp only [List.forall_mem_cons]
  exact ⟨exists_next_of_save (exec_instr (.svstr w a) s) nofun rfl,
    exists_next_of_save (exec_instr (.svstnr .nry w) s) nofun rfl,
    exists_next_of_save (exec_instr (.svstnr .nra w) s) nofun rfl, List.forall_mem_nil _⟩

/-- A word-mode load of a saved РгС gives it back, whatever РгС was (R35, R371). -/
theorem loaded_statusByte (st st' : Status) : loaded .word (0x00#8 ++ statusByte st) st' = st := by
  obtain ⟨fl3, fl2, fl1, l, n, ovr, c, z⟩ := st
  simp only [loaded]
  revert fl3 fl2 fl1 l n ovr c z
  decide

/-- Settles O47: SVSTNR NRA leaves the saved word in Акк, and SONR MOVE SOA NRS loads it. -/
theorem statusRoundTrip : Obligations.StatusRoundTrip := by
  unfold Obligations.StatusRoundTrip
  intro s u
  obtain ⟨t, ht, -, hsave⟩ :=
    exists_next_of_save (s := s) (exec_instr (.svstnr .nra .word) s) nofun rfl
  obtain ⟨-, hacc, -⟩ := hsave
  refine ⟨t, ht, fun hu => ?_⟩
  obtain ⟨v, hv, -, -, -, -, hst, -⟩ := deliver_gives (w := .word) (dst := .st) _
    (exec_instr (.sonr .move .soa .nrs .word) u) nofun rfl rfl
  refine ⟨v, hv, ?_⟩
  have hword : loW .word u.acc = 0x00#8 ++ statusByte s.st := by
    rw [hu, hacc, if_pos (.inl rfl), loW_writeW, loW_word]
  rw [hst, if_pos (.inl rfl), ← loaded_statusByte s.st u.st, ← hword]
  rfl

/-! ## Tests -/

/-- The twelve tests are the TSTST instructions with their conditions (R378 to R389). -/
theorem exists_of_mem_testConditions {st : Status} {p : Instr × Bool} (hp : p ∈ testConditions st) :
    ∃ cond : TestCond, p = (tststInstr cond, testCond cond st) := by
  revert p
  simp only [testConditions, List.forall_mem_cons]
  exact ⟨⟨.tnoz, rfl⟩, ⟨.tno, rfl⟩, ⟨.tz, rfl⟩, ⟨.tovr, rfl⟩, ⟨.tlow, rfl⟩, ⟨.tc, rfl⟩, ⟨.tzc, rfl⟩,
    ⟨.tn, rfl⟩, ⟨.tl, rfl⟩, ⟨.tf1, rfl⟩, ⟨.tf2, rfl⟩, ⟨.tf3, rfl⟩, List.forall_mem_nil _⟩

/-- TSTST ends with its condition on CT (R376). -/
theorem exec_tstst (cond : TestCond) (s : State) :
    exec (tststInstr cond) s = .next (s.finish (Config.freeY s.draws) (testCond cond s.st) 1) :=
  exec_instr (.tstst cond) s

/-- Settles O48: a test ends with its condition on CT and writes nothing. -/
theorem testConditions : Obligations.TestConditions := by
  unfold Obligations.TestConditions
  intro s p hp
  obtain ⟨cond, rfl⟩ := exists_of_mem_testConditions hp
  exact ⟨_, exec_tstst cond s, rfl, rfl, NoOperation.finish_keepsRegisters s _ _⟩

/-- Bits 4:1 of a TSTST word select the condition of the instruction (R377). -/
theorem ctViaT_word (cond : TestCond) (st : Status) :
    ctViaT ((Format.tstst cond).fields.assemble.extractLsb' 1 4) st = some (testCond cond st) := by
  have hcode : TestCond.ofCode ((Format.tstst cond).fields.assemble.extractLsb' 1 4 ++ 0#1) =
      some cond := by cases cond <;> decide
  rw [ctViaT, hcode, Option.map_some]

/-- Settles O49: the code on T(4:1) is decoded by the table that encodes the instruction. -/
theorem testBusAgreesWithTest : Obligations.TestBusAgreesWithTest := by
  unfold Obligations.TestBusAgreesWithTest
  refine ⟨fun s p hp => ?_, fun code st => ?_⟩
  · obtain ⟨cond, rfl⟩ := exists_of_mem_testConditions hp
    exact ⟨_, _, exec_tstst cond s, congrArg Format.words (format_instr (.tstst cond)),
      ctViaT_word cond s.st⟩
  · rw [ctViaT, Option.map_eq_none_iff]
    revert code
    decide

end Sys2Proof.StatusResults
